-- ==== Sys2Proof/Word.lean ====
section
/-! DEFINITION. The fixed-width values of the core: unsigned, bit 0 the least significant (00_scope.md R7).
The core has no signed value, no byte order and no value of more than one unit (20_memory.md R52). -/

namespace Sys2Proof

/-- A tick counter or a duty register: 8 bits (10_state.md R22, R27). -/
abbrev Word8 := BitVec 8

/-- A pair of output lines: a drive-enable pair (format EN2, 30_encoding.md R80) or a direction-selector pair
(format DSEL2, R78; bit 1 line A, bit 0 line B). -/
abbrev Pair := BitVec 2

/-- Format SENS7: the raw sensor group, or the activity vector; bit 6 the leftmost sensor (30_encoding.md R71). -/
abbrev Sens7 := BitVec 7

/-- Format CMD9: one side's packed command (30_encoding.md R79). -/
abbrev Cmd9 := BitVec 9

/-- Format STIM10: one word of a stimulus trace (30_encoding.md R81); also wide enough for every other format. -/
abbrev Stim10 := BitVec 10

end Sys2Proof
end

