-- ==== Sys2Proof/Syntax.lean ====
section
/-! DEFINITION. The names the spec uses: sides, directions, steering states, sequencer steps, the rows of
opcode_table.json (one constructor of `Instr` each), the moves of the environment and the trace language. -/

namespace Sys2Proof

/-- A motor side, the `x` of `CNT_x` (00_scope.md R8). -/
inductive Side where
  | left
  | right
  deriving DecidableEq, Repr

/-- The direction of a MotorCommand (00_scope.md R11). -/
inductive Dir where
  | forward
  | backward
  deriving DecidableEq, Repr

/-- The seven SteeringStates, in the order of their codes 0 to 6; code 7 is reserved and is no value here
(10_state.md R25, 30_encoding.md R73, R83). -/
inductive Steering where
  | centered
  | softLeft
  | softRight
  | hardLeft
  | hardRight
  | lostLeft
  | lostRight
  deriving DecidableEq, Repr

/-- The values of SEQ: the micro-operation MAIN performs next; code 6 is reserved and is no value here
(10_state.md R24, 30_encoding.md R74, R83). -/
inductive SeqStep where
  | cfgrd
  | sense
  | wrdirL
  | wrdutyL
  | wrdirR
  | wrdutyR
  | idle
  deriving DecidableEq, Repr

/-- The values of a direction-selector latch `DSEL_x`: no direction selected, or the direction last written. The pair
0b11 is reserved, never driven, and is no value here (10_state.md R28, 30_encoding.md R78, R83). -/
inductive DirSel where
  | none
  | forward
  | backward
  deriving DecidableEq, Repr

/-- The values of a drive-enable latch `EN_x`: both lines low or both high. The pairs 0b01 and 0b10 are reserved, never
driven, and are no values here (10_state.md R29, 30_encoding.md R80, R83). -/
inductive Enable where
  | coast
  | energized
  deriving DecidableEq, Repr

/-- The three phases, a function of SEQ (60_exceptions.md R220). -/
inductive Phase where
  | boot
  | run
  | halt
  deriving DecidableEq, Repr

/-- One side's MotorCommand: a direction and a duty numerator 0 to 255 (00_scope.md R11, 30_encoding.md R77). -/
structure MotorCommand where
  dir : Dir
  duty : Word8
  deriving DecidableEq, Repr

/-- One row of the command table: a MotorCommand for each side (41_steering.md R135). -/
structure CmdPair where
  left : MotorCommand
  right : MotorCommand
  deriving DecidableEq, Repr

/-- The instructions: one constructor per row of opcode_table.json (30_encoding.md R85). -/
inductive Instr where
  -- micro-operations of MAIN, format SEQ3 (30_encoding.md R74)
  | cfgrd
  | sense
  | wrdirL
  | wrdutyL
  | wrdirR
  | wrdutyR
  | idle
  -- operations selected by an event or an enabling condition, format EVENT (30_encoding.md R85)
  | pwmtickL
  | pwmtickR
  | dispatch
  | tickreq
  | reset
  -- the classification rows of SENSE, format SENS7 (30_encoding.md R75)
  | clsCentered
  | clsSoftleft
  | clsSoftright
  | clsHardleft
  | clsHardright
  | clsLostleft
  | clsLostright
  | clsHold
  -- the command rows, format ST3 (30_encoding.md R76)
  | cmdCentered
  | cmdSoftleft
  | cmdSoftright
  | cmdHardleft
  | cmdHardright
  | cmdLostleft
  | cmdLostright
  -- the words of a stimulus trace, format STIM10 (30_encoding.md R81)
  | step
  | tick
  | sens (v : Sens7)
  | cfg (h p : Bool)
  | rst
  deriving DecidableEq, Repr

/-- What a row's pattern is matched against (30_encoding.md R85): x[SEQ], x[STATE], the activity vector A, a
stimulus word, or, for format EVENT, the one-bit signal the row's field `over` names. DISPATCH and its two parts
are selected by the same bit x[TICK_PEND]. DESIGN CHOICE (safe, log 6): `tickPendPartL` and `tickPendPartR` tell the
parts apart, so that each row has a code of its own. -/
inductive Selector where
  | seq3
  | tickPend
  | tickPendPartL
  | tickPendPartR
  | tickIn
  | rstIn
  | sens7
  | st3
  | stim10
  deriving DecidableEq, Repr

/-- A code: bits of one format. Formats narrower than 10 bits leave the upper bits zero. -/
structure Code where
  sel : Selector
  bits : Stim10
  deriving DecidableEq, Repr

/-- Why the decoder rejects a code (30_encoding.md R83): none of these is a trap of the core. -/
inductive DecodeError where
  /-- a bit is set above the width of the format -/
  | tooWide
  /-- SEQ3 code 6, reserved, never written -/
  | reservedSeq
  /-- ST3 code 7, reserved, never written -/
  | reservedState
  /-- DSEL2 code 0b11, reserved, never driven -/
  | reservedSelector
  /-- EN2 code 0b01 or 0b10, reserved, never driven -/
  | reservedEnable
  /-- an event line or a pending bit at 0 selects nothing -/
  | noEvent
  /-- no classification row fits; no 7-bit vector is rejected so (41_steering.md R131) -/
  | noSensorRow
  /-- a reserved kind of stimulus word, or a non-zero argument where it must be zero (30_encoding.md R81) -/
  | illFormedStimulus
  deriving DecidableEq, Repr

/-- What happens at one step beyond the core's own choice: the rows of 60_exceptions.md R213, and, as `stim`, one
word for the testbench's scheduler (30_encoding.md R81). -/
inductive Move where
  /-- the environment does nothing: the core takes its own step, DISPATCH or MAIN (R210, R212) -/
  | core
  /-- an event on TICK_IN: TICKREQ (R206) -/
  | tickIn
  /-- an event on RST: RESET (70_reset_and_hazards.md R230) -/
  | rst
  /-- the environment changes SENS_RAW -/
  | sensRaw (v : Sens7)
  /-- the environment changes CFG_POL -/
  | cfgPol (level : Bool)
  /-- the environment changes CFG_HALT -/
  | cfgHalt (level : Bool)
  /-- one word of a stimulus trace -/
  | stim (w : Stim10)
  deriving DecidableEq, Repr

/-- The pseudo-operations of the trace language (30_encoding.md R82). -/
inductive Pseudo where
  | loop
  | boot (h p : Bool)
  | ticks (n : Nat)
  | sensa (a : Sens7)
  deriving DecidableEq, Repr

/-- The four output signal groups of the pin space (20_memory.md R50). -/
inductive OutSignal where
  | enL
  | enR
  | dselL
  | dselR
  deriving DecidableEq, Repr

/-- What one side's output pins say together, for the environment (42_motor_driver.md R159): `noDirection` is
energized with no direction selected, whose effect on an H-bridge is outside the core. -/
inductive Drive where
  | coast
  | driveForward
  | driveBackward
  | noDirection
  deriving DecidableEq, Repr

end Sys2Proof
end

