-- ==== Sys2Proof/Config.lean ====
section
/-! DEFINITION. The parameters of one instance of the core (00_scope.md R6). They are constants of the instance, not
registers (10_state.md R21): the state carries them and no step writes them, so that one statement speaks of every
instance. The spec leaves no value of any operation undefined, so there is no free value here. -/

namespace Sys2Proof

/-- CMD_TABLE: a row for every SteeringState (30_encoding.md R76); its duties may be retuned to any value 0 to 255
(R77, decision D22). -/
structure CmdTable where
  centered : CmdPair
  softLeft : CmdPair
  softRight : CmdPair
  hardLeft : CmdPair
  hardRight : CmdPair
  lostLeft : CmdPair
  lostRight : CmdPair
  deriving DecidableEq, Repr

/-- The parameters of 00_scope.md R6. N_SENS, CNT_W and DUTY_W are fixed and are widths of types; TICK_PERIOD is
timing only. -/
structure Config where
  /-- PERIOD, 1 to 255 -/
  period : Nat
  /-- CMD_TABLE -/
  cmdTable : CmdTable
  /-- CNT_INIT_L, 0 to PERIOD-1 -/
  cntInitL : Word8
  /-- CNT_INIT_R, 0 to PERIOD-1 -/
  cntInitR : Word8
  /-- STATE_INIT -/
  steerInit : Steering
  /-- CMD_ATOMIC -/
  cmdAtomic : Bool
  deriving DecidableEq, Repr

/-- The reference command table (41_steering.md R135). -/
def CmdTable.reference : CmdTable where
  centered := ⟨⟨.forward, 7⟩, ⟨.forward, 7⟩⟩
  softLeft := ⟨⟨.backward, 3⟩, ⟨.forward, 7⟩⟩
  softRight := ⟨⟨.forward, 7⟩, ⟨.backward, 3⟩⟩
  hardLeft := ⟨⟨.backward, 7⟩, ⟨.forward, 7⟩⟩
  hardRight := ⟨⟨.forward, 7⟩, ⟨.backward, 7⟩⟩
  lostLeft := ⟨⟨.backward, 7⟩, ⟨.forward, 4⟩⟩
  lostRight := ⟨⟨.forward, 4⟩, ⟨.backward, 7⟩⟩

/-- The reference design with the default values of the open parameters (00_scope.md R6).
DESIGN CHOICE (unsafe, log 3): the reset state carries these values, which the spec gives as defaults only. -/
def Config.reference : Config where
  period := 90
  cmdTable := CmdTable.reference
  cntInitL := 0
  cntInitR := 45
  steerInit := .centered
  cmdAtomic := false

end Sys2Proof
end

