-- ==== Sys2Proof/WellFormed.lean ====
section
/-! DEFINITION. The checks: the ranges of the parameters (00_scope.md R6), the form of a stimulus word
(30_encoding.md R81) and when a pseudo-operation is legal (R82). The operands of an `Instr` are typed at their
widths, so every term of `Instr` is well formed as it stands. -/

namespace Sys2Proof

/-- PERIOD is 1 to 255 and each counter starts below it (00_scope.md R6, 10_state.md R22). -/
abbrev Config.WellFormed (c : Config) : Prop :=
  1 ≤ c.period ∧ c.period ≤ 255 ∧ c.cntInitL.toNat < c.period ∧ c.cntInitR.toNat < c.period

/-- The kind of a stimulus word, bits 9:7 (30_encoding.md R81). -/
def stimKind (w : Stim10) : BitVec 3 := w.extractLsb' 7 3

/-- The argument of a stimulus word, bits 6:0 (30_encoding.md R81). -/
def stimArg (w : Stim10) : Sens7 := w.extractLsb' 0 7

/-- A stimulus word is well formed when its kind is not reserved, a STEP, TICK or RST has argument 0 and a CFG has
argument bits 6:2 zero (30_encoding.md R81). -/
def stimWellFormed (w : Stim10) : Bool :=
  match (stimKind w).toNat with
  | 0 => stimArg w == 0
  | 1 => stimArg w == 0
  | 2 => true
  | 3 => (stimArg w).extractLsb' 2 5 == 0
  | 7 => stimArg w == 0
  | _ => false

/-- A move is well formed unless it is a stimulus word that is not (30_encoding.md R83). -/
def Move.wellFormed : Move → Bool
  | .stim w => stimWellFormed w
  | .core => true
  | .tickIn => true
  | .rst => true
  | .sensRaw _ => true
  | .cfgPol _ => true
  | .cfgHalt _ => true

/-- LOOP is legal only at SENSE (30_encoding.md R82); the other pseudo-operations always are. -/
def Pseudo.legal (q : SeqStep) : Pseudo → Bool
  | .loop => q == .sense
  | .boot _ _ => true
  | .ticks _ => true
  | .sensa _ => true

end Sys2Proof
end

