-- ==== Sys2Proof/Decode.lean ====
section
/-! DEFINITION. The decoder, written as opcode_table.json is: a row has a selector, a mask and a match
(30_encoding.md R85). After it the encoder, the codes of the enumerations, and the packed command. -/

namespace Sys2Proof

/-- How many bits a selector's format has (30_encoding.md R85). -/
def Selector.width : Selector → Nat
  | .seq3 => 3
  | .tickPend => 1
  | .tickPendPartL => 1
  | .tickPendPartR => 1
  | .tickIn => 1
  | .rstIn => 1
  | .sens7 => 7
  | .st3 => 3
  | .stim10 => 10

/-- One row: mask and match over the selector's bits; `build` reads the operands. -/
structure Row where
  sel : Selector
  mask : Stim10
  matchBits : Stim10
  build : Stim10 → Instr

/-- A row without operands. -/
def Row.plain (sel : Selector) (mask matchBits : Stim10) (i : Instr) : Row := ⟨sel, mask, matchBits, fun _ => i⟩

/-- Format SEQ3 over x[SEQ] (30_encoding.md R74). -/
def seqRows : List Row :=
  [.plain .seq3 0x7 0x0 .cfgrd, .plain .seq3 0x7 0x1 .sense, .plain .seq3 0x7 0x2 .wrdirL, .plain .seq3 0x7 0x3 .wrdutyL,
   .plain .seq3 0x7 0x4 .wrdirR, .plain .seq3 0x7 0x5 .wrdutyR, .plain .seq3 0x7 0x7 .idle]

/-- Format EVENT: the single bit 1 over a signal (30_encoding.md R85). -/
def eventRows : List Row :=
  [.plain .tickPendPartL 0x1 0x1 .pwmtickL, .plain .tickPendPartR 0x1 0x1 .pwmtickR, .plain .tickPend 0x1 0x1 .dispatch,
   .plain .tickIn 0x1 0x1 .tickreq, .plain .rstIn 0x1 0x1 .reset]

/-- Format SENS7 over the activity vector (30_encoding.md R75). -/
def clsRows : List Row :=
  [.plain .sens7 0x08 0x08 .clsCentered, .plain .sens7 0x18 0x10 .clsSoftleft, .plain .sens7 0x1C 0x04 .clsSoftright,
   .plain .sens7 0x3C 0x20 .clsHardleft, .plain .sens7 0x3E 0x02 .clsHardright, .plain .sens7 0x7E 0x40 .clsLostleft,
   .plain .sens7 0x7F 0x01 .clsLostright, .plain .sens7 0x7F 0x00 .clsHold]

/-- Format ST3 over x[STATE] (30_encoding.md R76). -/
def cmdRows : List Row :=
  [.plain .st3 0x7 0x0 .cmdCentered, .plain .st3 0x7 0x1 .cmdSoftleft, .plain .st3 0x7 0x2 .cmdSoftright,
   .plain .st3 0x7 0x3 .cmdHardleft, .plain .st3 0x7 0x4 .cmdHardright, .plain .st3 0x7 0x5 .cmdLostleft,
   .plain .st3 0x7 0x6 .cmdLostright]

/-- Format STIM10 over a stimulus word (30_encoding.md R81). -/
def stimRows : List Row :=
  [.plain .stim10 0x3FF 0x000 .step, .plain .stim10 0x3FF 0x080 .tick, ⟨.stim10, 0x380, 0x100, fun w => .sens (stimArg w)⟩,
   ⟨.stim10, 0x3FC, 0x180, fun w => .cfg (w.getLsbD 1) (w.getLsbD 0)⟩, .plain .stim10 0x3FF 0x380 .rst]

/-- The rows of one selector. -/
def rowsOf : Selector → List Row
  | .seq3 => seqRows
  | .tickPend => eventRows
  | .tickPendPartL => eventRows
  | .tickPendPartR => eventRows
  | .tickIn => eventRows
  | .rstIn => eventRows
  | .sens7 => clsRows
  | .st3 => cmdRows
  | .stim10 => stimRows

/-- Whether a row selects a code: (bits AND mask) = match over the row's own selector (30_encoding.md R75, R85). -/
def Row.selects (r : Row) (c : Code) : Bool := r.sel == c.sel && c.bits &&& r.mask == r.matchBits

/-- The name under which a code with no row is rejected (30_encoding.md R83). -/
def Selector.rejection : Selector → DecodeError
  | .seq3 => .reservedSeq
  | .tickPend => .noEvent
  | .tickPendPartL => .noEvent
  | .tickPendPartR => .noEvent
  | .tickIn => .noEvent
  | .rstIn => .noEvent
  | .sens7 => .noSensorRow
  | .st3 => .reservedState
  | .stim10 => .illFormedStimulus

/-- The decoder: total, rejecting by name. -/
def decode (c : Code) : Except DecodeError Instr :=
  if c.bits.toNat < 2 ^ c.sel.width then
    match (rowsOf c.sel).find? (·.selects c) with
    | some r => .ok (r.build c.bits)
    | none => .error c.sel.rejection
  else .error .tooWide

/-- One word of a stimulus trace (30_encoding.md R81). -/
def decodeStim (w : Stim10) : Except DecodeError Instr := decode ⟨.stim10, w⟩

/-- The encoder: the code of every instruction; the don't-care bits of a SENS7 pattern are written as 0. -/
def encode : Instr → Code
  | .cfgrd => ⟨.seq3, 0⟩
  | .sense => ⟨.seq3, 1⟩
  | .wrdirL => ⟨.seq3, 2⟩
  | .wrdutyL => ⟨.seq3, 3⟩
  | .wrdirR => ⟨.seq3, 4⟩
  | .wrdutyR => ⟨.seq3, 5⟩
  | .idle => ⟨.seq3, 7⟩
  | .pwmtickL => ⟨.tickPendPartL, 1⟩
  | .pwmtickR => ⟨.tickPendPartR, 1⟩
  | .dispatch => ⟨.tickPend, 1⟩
  | .tickreq => ⟨.tickIn, 1⟩
  | .reset => ⟨.rstIn, 1⟩
  | .clsCentered => ⟨.sens7, 0b0001000⟩
  | .clsSoftleft => ⟨.sens7, 0b0010000⟩
  | .clsSoftright => ⟨.sens7, 0b0000100⟩
  | .clsHardleft => ⟨.sens7, 0b0100000⟩
  | .clsHardright => ⟨.sens7, 0b0000010⟩
  | .clsLostleft => ⟨.sens7, 0b1000000⟩
  | .clsLostright => ⟨.sens7, 0b0000001⟩
  | .clsHold => ⟨.sens7, 0b0000000⟩
  | .cmdCentered => ⟨.st3, 0⟩
  | .cmdSoftleft => ⟨.st3, 1⟩
  | .cmdSoftright => ⟨.st3, 2⟩
  | .cmdHardleft => ⟨.st3, 3⟩
  | .cmdHardright => ⟨.st3, 4⟩
  | .cmdLostleft => ⟨.st3, 5⟩
  | .cmdLostright => ⟨.st3, 6⟩
  | .step => ⟨.stim10, 0x000⟩
  | .tick => ⟨.stim10, 0x080⟩
  | .sens v => ⟨.stim10, (0b010#3 ++ v : BitVec 10)⟩
  | .cfg h p => ⟨.stim10, (0b01100000#8 ++ (BitVec.ofBool h ++ BitVec.ofBool p) : BitVec 10)⟩
  | .rst => ⟨.stim10, 0x380⟩

/-- The SEQ3 code of a sequencer step (30_encoding.md R74). -/
def SeqStep.code : SeqStep → BitVec 3
  | .cfgrd => 0
  | .sense => 1
  | .wrdirL => 2
  | .wrdutyL => 3
  | .wrdirR => 4
  | .wrdutyR => 5
  | .idle => 7

/-- The sequencer step of a SEQ3 code; none for the reserved code 6. -/
def SeqStep.ofCode (c : BitVec 3) : Option SeqStep :=
  match c.toNat with
  | 0 => some .cfgrd
  | 1 => some .sense
  | 2 => some .wrdirL
  | 3 => some .wrdutyL
  | 4 => some .wrdirR
  | 5 => some .wrdutyR
  | 7 => some .idle
  | _ => none

/-- The ST3 code of a steering state (30_encoding.md R73). -/
def Steering.code : Steering → BitVec 3
  | .centered => 0
  | .softLeft => 1
  | .softRight => 2
  | .hardLeft => 3
  | .hardRight => 4
  | .lostLeft => 5
  | .lostRight => 6

/-- The steering state of an ST3 code; none for the reserved code 7. -/
def Steering.ofCode (c : BitVec 3) : Option Steering :=
  match c.toNat with
  | 0 => some .centered
  | 1 => some .softLeft
  | 2 => some .softRight
  | 3 => some .hardLeft
  | 4 => some .hardRight
  | 5 => some .lostLeft
  | 6 => some .lostRight
  | _ => none

/-- The DSEL2 pair of a direction-selector latch, as its pins show it (30_encoding.md R78). -/
def DirSel.code : DirSel → Pair
  | .none => 0b00
  | .forward => 0b10
  | .backward => 0b01

/-- The latch value of a DSEL2 pair (30_encoding.md R78). DESIGN CHOICE (safe, log 10): the reserved pair 0b11 is
refused (93_implementation_defined.md U11; 30_encoding.md R83 says that it is no value of `Pat`). -/
def DirSel.ofCode (p : Pair) : Except DecodeError DirSel :=
  match p.toNat with
  | 0 => .ok .none
  | 1 => .ok .backward
  | 2 => .ok .forward
  | _ => .error .reservedSelector

/-- The EN2 pair of a drive-enable latch, as its pins show it (30_encoding.md R80). -/
def Enable.code : Enable → Pair
  | .coast => 0b00
  | .energized => 0b11

/-- The latch value of an EN2 pair (30_encoding.md R80). DESIGN CHOICE (safe, log 10): the reserved pairs 0b01 and 0b10
are refused (93_implementation_defined.md U11; 30_encoding.md R83 says that PWMTICK.x cannot write them). -/
def Enable.ofCode (p : Pair) : Except DecodeError Enable :=
  match p.toNat with
  | 0 => .ok .coast
  | 3 => .ok .energized
  | _ => .error .reservedEnable

/-- The micro-operation a sequencer step names (30_encoding.md R74). -/
def SeqStep.instr : SeqStep → Instr
  | .cfgrd => .cfgrd
  | .sense => .sense
  | .wrdirL => .wrdirL
  | .wrdutyL => .wrdutyL
  | .wrdirR => .wrdirR
  | .wrdutyR => .wrdutyR
  | .idle => .idle

/-- The command row a steering state selects (30_encoding.md R76). -/
def Steering.cmdRow : Steering → Instr
  | .centered => .cmdCentered
  | .softLeft => .cmdSoftleft
  | .softRight => .cmdSoftright
  | .hardLeft => .cmdHardleft
  | .hardRight => .cmdHardright
  | .lostLeft => .cmdLostleft
  | .lostRight => .cmdLostright

/-- CMD9 = (dir, duty), bit 8 the direction, 0 Forward, 1 Backward (30_encoding.md R79). -/
def MotorCommand.pack (m : MotorCommand) : Cmd9 :=
  (match m.dir with
   | .forward => 0#1
   | .backward => 1#1) ++ m.duty

/-- The command a CMD9 value stands for (30_encoding.md R79). -/
def MotorCommand.unpack (w : Cmd9) : MotorCommand :=
  ⟨if w.getLsbD 8 then .backward else .forward, w.extractLsb' 0 8⟩

/-- The formats a bare table word of `nbits` bits may belong to, in the order they are tried.
DESIGN CHOICE (safe, log 6): rows of different formats have the same bits, and a bare word does not say its
format; `decode` itself is given the selector and is never in doubt. -/
def tableSelectors (nbits : Nat) : List Selector :=
  if nbits ≤ 1 then [.tickPend]
  else if nbits ≤ 3 then [.seq3, .st3]
  else if nbits ≤ 7 then [.sens7]
  else if nbits = 8 then [.seq3, .st3, .sens7]
  else [.stim10]

/-- The instruction the decoder reads from a bare table word. -/
def decodeTableWord (nbits w : Nat) : Option Instr :=
  if w < 2 ^ 10 then
    (tableSelectors nbits).findSome? fun sel => (decode ⟨sel, BitVec.ofNat 10 w⟩).toOption
  else none

end Sys2Proof
end

