-- ==== Sys2Proof/Machine/State.lean ====
section
/-! DEFINITION. The state: the thirteen registers of 10_state.md R20, the levels on the input pins, the parameters of
the instance and the environment's next moves, as plain data; the state after reset. -/

namespace Sys2Proof.Machine

/-- Why the core stops with a fault: never. The core raises no exception and no operation has an error outcome
(60_exceptions.md R200), so the type has no constructor (safe: a run stops for no fault). -/
inductive Fault where
  deriving DecidableEq, Repr

/-- Why a step is refused. -/
inductive Refusal where
  /-- An instruction with no meaning yet; no arm of `exec` answers it now (safe: it stops). -/
  | notModelled (mnemonic : String)
  /-- The step met a stimulus word of a reserved kind or with a non-zero argument: an ill-formed trace
  (30_encoding.md R81, R83; 93_implementation_defined.md U12). Raised by `step` when it fetches the word
  (safe: it stops). -/
  | illFormedStimulus (word : Stim10)
  deriving DecidableEq, Repr

/-- One motor side's four registers: `CNT_x`, `DUTY_x`, `DSEL_x`, `EN_x` (10_state.md R22, R27, R28, R29). The
two output latches are enumerations, as 30_encoding.md R83 lets a model have them (log 10). -/
structure SideRegs where
  cnt : Word8
  duty : Word8
  dsel : DirSel
  en : Enable
  deriving DecidableEq, Repr

/-- The state. `left`, `right`, `steer`, `pol`, `seq`, `tickEn`, `tickPend` are the thirteen registers of
10_state.md R20. The other five are not registers of the core: the levels the environment drives on the input pins
(20_memory.md R50; log 2), the parameters (00_scope.md R6; log 3) and the environment's next moves (log 1). -/
structure State where
  /-- CNT_L, DUTY_L, DSEL_L, EN_L -/
  left : SideRegs
  /-- CNT_R, DUTY_R, DSEL_R, EN_R -/
  right : SideRegs
  /-- STATE -/
  steer : Steering
  /-- POL -/
  pol : Bool
  /-- SEQ -/
  seq : SeqStep
  /-- TICK_EN -/
  tickEn : Bool
  /-- TICK_PEND -/
  tickPend : Bool
  /-- the level on SENS_RAW -/
  sensRaw : Sens7
  /-- the level on CFG_POL -/
  cfgPol : Bool
  /-- the level on CFG_HALT -/
  cfgHalt : Bool
  /-- the parameters of the instance -/
  cfg : Config
  /-- the environment's next moves, oldest first; when none is left the environment does nothing -/
  moves : List Move
  deriving DecidableEq, Repr

/-- One side's registers after reset (70_reset_and_hazards.md R230). -/
def SideRegs.reset (cntInit : Word8) : SideRegs where
  cnt := cntInit
  duty := 0
  dsel := .none
  en := .coast

/-- An instance with parameters `c` as power-up leaves it (70_reset_and_hazards.md R230, R231): every register at its
reset value. DESIGN CHOICE (unsafe, log 2): the input pins are at 0 until the environment drives them.
DESIGN CHOICE (unsafe, log 1): the environment has no move waiting. -/
def State.powerUp (c : Config) : State where
  left := SideRegs.reset c.cntInitL
  right := SideRegs.reset c.cntInitR
  steer := c.steerInit
  pol := false
  seq := .cfgrd
  tickEn := false
  tickPend := false
  sensRaw := 0
  cfgPol := false
  cfgHalt := false
  cfg := c
  moves := []

/-- The reference design right after reset (70_reset_and_hazards.md R231, 95_test_vectors.md V-RST-1).
DESIGN CHOICE (unsafe, log 3): the open parameters have their default values. -/
def State.reset : State := State.powerUp Config.reference

end Sys2Proof.Machine
end

