-- ==== Sys2Proof/Machine/Operands.lean ====
section
/-! DEFINITION. What the operations read: a side of the state, the input pins, the activity vector, the classification
of a reading, the command of a state, the direction pattern, the output pins. -/

namespace Sys2Proof.Machine

/-- The registers of one side. -/
def State.side (s : State) : Side → SideRegs
  | .left => s.left
  | .right => s.right

/-- `CNT_INIT_x` (00_scope.md R6). -/
def cntInitOf (c : Config) : Side → Word8
  | .left => c.cntInitL
  | .right => c.cntInitR

/-- `MemRead(SENS_RAW, 7)`: all seven lines at one instant, no side effect (20_memory.md R54, R55). -/
def readSensRaw (s : State) : Sens7 := s.sensRaw

/-- `MemRead(CFG_POL, 1)` (20_memory.md R54, R55). -/
def readCfgPol (s : State) : Bool := s.cfgPol

/-- `MemRead(CFG_HALT, 1)` (20_memory.md R54, R55). -/
def readCfgHalt (s : State) : Bool := s.cfgHalt

/-- The activity vector A = raw XNOR (POL repeated 7 times): raw where POL is 1, NOT raw where it is 0
(30_encoding.md R72). -/
def activityVector (pol : Bool) (raw : Sens7) : Sens7 :=
  match pol with
  | true => raw
  | false => ~~~raw

/-- The activity vector SENSE computes in this state. -/
def activityOf (s : State) : Sens7 := activityVector s.pol (readSensRaw s)

/-- The raw reading whose activity vector under `pol` is `a` (pseudo-operation SENSA, 30_encoding.md R82). -/
def rawOfActivity (pol : Bool) (a : Sens7) : Sens7 :=
  match pol with
  | true => a
  | false => ~~~a

/-- The classification of 41_steering.md R120: a fixed priority, first match wins, the previous state held when no
sensor is active. -/
def classify (prev : Steering) (a : Sens7) : Steering :=
  if a.getLsbD 3 then .centered
  else if a.getLsbD 4 then .softLeft
  else if a.getLsbD 2 then .softRight
  else if a.getLsbD 5 then .hardLeft
  else if a.getLsbD 1 then .hardRight
  else if a.getLsbD 6 then .lostLeft
  else if a.getLsbD 0 then .lostRight
  else prev

/-- `Cmd(s)`: the row of CMD_TABLE for a steering state (41_steering.md R135). -/
def commandOf (t : CmdTable) : Steering → CmdPair
  | .centered => t.centered
  | .softLeft => t.softLeft
  | .softRight => t.softRight
  | .hardLeft => t.hardLeft
  | .hardRight => t.hardRight
  | .lostLeft => t.lostLeft
  | .lostRight => t.lostRight

/-- One side's MotorCommand of a row. -/
def sideCommand (p : CmdPair) : Side → MotorCommand
  | .left => p.left
  | .right => p.right

/-- `Cmd(x[STATE])`, the command in force for one side: recomputed by each write, held nowhere
(10_state.md R21, decision D24). -/
def commandFor (s : State) (x : Side) : MotorCommand := sideCommand (commandOf s.cfg.cmdTable s.steer) x

/-- `Pat(d)`: the direction-selector pattern of a direction, the same on both sides (30_encoding.md R78). -/
def pat : Dir → Pair
  | .forward => 0b10
  | .backward => 0b01

/-- The direction-selector latch of a direction, whose pins show `Pat(d)`. -/
def selectorOf : Dir → DirSel
  | .forward => .forward
  | .backward => .backward

/-- The direction last commanded, read back from a direction-selector latch: none before the first write
(42_motor_driver.md R158). -/
def lastDirection : DirSel → Option Dir
  | .none => none
  | .forward => some .forward
  | .backward => some .backward

/-- The level on an output signal group: the pins always show the latch of their name (10_state.md R28, R29). -/
def State.outPin (s : State) : OutSignal → Pair
  | .enL => s.left.en.code
  | .enR => s.right.en.code
  | .dselL => s.left.dsel.code
  | .dselR => s.right.dsel.code

/-- What one side's pins `EN_x` and `DSEL_x` say together (42_motor_driver.md R159).
DESIGN CHOICE (safe, log 10): a reserved pair on either is refused, whatever the other says (93_implementation_defined.md
U11). -/
def drive (en dsel : Pair) : Except DecodeError Drive :=
  match Enable.ofCode en, DirSel.ofCode dsel with
  | .error e, _ => .error e
  | .ok _, .error e => .error e
  | .ok .coast, .ok _ => .ok .coast
  | .ok .energized, .ok .forward => .ok .driveForward
  | .ok .energized, .ok .backward => .ok .driveBackward
  | .ok .energized, .ok .none => .ok .noDirection

end Sys2Proof.Machine
end

