-- ==== Sys2Proof/Machine/Flags.lean ====
section
/-! DEFINITION. The core has no condition codes (10_state.md R30): the comparison of PWMTICK.x leaves no flag. Its
one status bit is TICK_PEND; what is computed from it and from SEQ stands here: the phase, the hold and which of
DISPATCH and a MAIN step is enabled. -/

namespace Sys2Proof.Machine

/-- The phase of a sequencer step (60_exceptions.md R220). -/
def phaseOf : SeqStep → Phase
  | .cfgrd => .boot
  | .sense => .run
  | .wrdirL => .run
  | .wrdutyL => .run
  | .wrdirR => .run
  | .wrdutyR => .run
  | .idle => .halt

/-- The phase of a state (60_exceptions.md R220). -/
def State.phase (s : State) : Phase := phaseOf s.seq

/-- A side's direction has been written and its duty has not: SEQ is 3 or 5 (60_exceptions.md R211). -/
def inWriteWindow : SeqStep → Bool
  | .cfgrd => false
  | .sense => false
  | .wrdirL => false
  | .wrdutyL => true
  | .wrdirR => false
  | .wrdutyR => true
  | .idle => false

/-- The hold: CMD_ATOMIC and SEQ is 3 or 5 (60_exceptions.md R211). -/
def held (s : State) : Bool := s.cfg.cmdAtomic && inWriteWindow s.seq

/-- DISPATCH is enabled exactly when TICK_PEND = 1 and the hold is off (60_exceptions.md R210). -/
def dispatchEnabled (s : State) : Bool := s.tickPend && !held s

/-- A MAIN step is enabled exactly when DISPATCH is not (60_exceptions.md R212); the reserved code 6 is no value of
SEQ here. -/
def mainEnabled (s : State) : Bool := !dispatchEnabled s

end Sys2Proof.Machine
end

