-- ==== Sys2Proof/Machine/Ops.lean ====
section
/-! DEFINITION. The named writes of the registers and of the input levels, and the operations the meanings share: one
side's PWM tick, taking the tick interrupt, requesting it, reset, one field of a side's command. All writes of one
operation happen together (00_scope.md R8, R9). -/

namespace Sys2Proof.Machine

/-- Write one side's registers. -/
def State.setSide (s : State) (x : Side) (r : SideRegs) : State :=
  match x with
  | .left => { s with left := r }
  | .right => { s with right := r }

/-- `x[STATE] <- v`. -/
def State.setSteer (s : State) (v : Steering) : State := { s with steer := v }

/-- `x[POL] <- v`. -/
def State.setPol (s : State) (v : Bool) : State := { s with pol := v }

/-- `x[SEQ] <- v`. -/
def State.setSeq (s : State) (v : SeqStep) : State := { s with seq := v }

/-- `x[TICK_EN] <- v`. -/
def State.setTickEn (s : State) (v : Bool) : State := { s with tickEn := v }

/-- `x[TICK_PEND] <- v`. -/
def State.setTickPend (s : State) (v : Bool) : State := { s with tickPend := v }

/-- The environment drives SENS_RAW (20_memory.md R50). -/
def State.setSensRaw (s : State) (v : Sens7) : State := { s with sensRaw := v }

/-- The environment drives CFG_HALT with `h` and CFG_POL with `p` (20_memory.md R50). -/
def State.setCfgPins (s : State) (h p : Bool) : State := { s with cfgHalt := h, cfgPol := p }

/-- The environment's moves that are left. -/
def State.setMoves (s : State) (ms : List Move) : State := { s with moves := ms }

/-- Drive a side's direction-selector pair: register and pins together (42_motor_driver.md R151). -/
def SideRegs.setDsel (r : SideRegs) (d : DirSel) : SideRegs := { r with dsel := d }

/-- `x[DUTY_x] <- zext_8(duty)` (42_motor_driver.md R152). -/
def SideRegs.setDuty (r : SideRegs) (d : Word8) : SideRegs := { r with duty := d }

/-- The enable pair a tick drives: both lines high when counter <= duty, both low otherwise; unsigned, inclusive, the
counter before the increment (40_pwm.md R101 step 1, R104, R105). -/
def enableLevel (cnt duty : Word8) : Enable :=
  if cnt.toNat ≤ duty.toNat then .energized else .coast

/-- The counter after a tick: incremented, and 0 when it reaches or exceeds PERIOD (40_pwm.md R101 steps 2, 3).
DESIGN CHOICE (unsafe, log 3): with PERIOD above 255, outside its range, a count of 256 is kept in 8 bits. -/
def nextCount (period : Nat) (cnt : Word8) : Word8 :=
  if period ≤ cnt.toNat + 1 then 0 else BitVec.ofNat 8 (cnt.toNat + 1)

/-- One side's tick (40_pwm.md R101, R102). -/
def SideRegs.pwmTick (period : Nat) (r : SideRegs) : SideRegs :=
  { r with en := enableLevel r.cnt r.duty, cnt := nextCount period r.cnt }

/-- PWMTICK.x on the state: it touches CNT_x and EN_x (40_pwm.md R100). -/
def tickSide (x : Side) (s : State) : State := s.setSide x ((s.side x).pwmTick s.cfg.period)

/-- Taking the tick interrupt: the handler runs to completion in one atomic step, both sides tick, the request is
cleared (60_exceptions.md R208). Entry saves nothing and return restores nothing: there is no saved pc, status, mode
or vector, and the return is the end of this step (R209). -/
def takeTick (s : State) : State := (tickSide .right (tickSide .left s)).setTickPend false

/-- A tick request: latched when enabled, dropped when not; a second one merges (60_exceptions.md R206, R207). -/
def requestTick (s : State) : State := if s.tickEn then s.setTickPend true else s

/-- DISPATCH if it is enabled (30_encoding.md R81). -/
def dispatchIfEnabled (s : State) : State := if dispatchEnabled s then takeTick s else s

/-- RESET: all thirteen registers to their reset values in one step (70_reset_and_hazards.md R230); the parameters
are constants. DESIGN CHOICE (unsafe, logs 1 and 2): the input levels and the waiting moves are the environment's and
stay. -/
def applyReset (s : State) : State :=
  { s with
    left := { cnt := s.cfg.cntInitL, duty := 0, dsel := .none, en := .coast }
    right := { cnt := s.cfg.cntInitR, duty := 0, dsel := .none, en := .coast }
    steer := s.cfg.steerInit
    pol := false
    seq := .cfgrd
    tickEn := false
    tickPend := false }

/-- WRDIR.x without its step of SEQ: the direction of the state's command on the side's selector pair
(42_motor_driver.md R151, R153). -/
def writeDirection (x : Side) (s : State) : State := s.setSide x ((s.side x).setDsel (selectorOf (commandFor s x).dir))

/-- WRDUTY.x without its step of SEQ: the duty of the state's command (42_motor_driver.md R152, R154). -/
def writeDuty (x : Side) (s : State) : State := s.setSide x ((s.side x).setDuty (commandFor s x).duty)

/-- The whole of a command row: what the four writes of an iteration leave in the motor driver's registers when the
row's state is the one written from (42_motor_driver.md R155). -/
def issueCommand (p : CmdPair) (s : State) : State :=
  (s.setSide .left ((s.left.setDsel (selectorOf p.left.dir)).setDuty p.left.duty)).setSide .right
    ((s.right.setDsel (selectorOf p.right.dir)).setDuty p.right.duty)

/-- A classification row: selected when (A AND mask) = match, and then STATE is written; a row that is not selected
does nothing (30_encoding.md R75). -/
def classRow (mask matchBits : Sens7) (new : Steering) (s : State) : State :=
  if activityOf s &&& mask = matchBits then s.setSteer new else s

/-- A command row: selected when x[STATE] is its state, and then its command is issued; a row that is not selected
does nothing (30_encoding.md R76). DESIGN CHOICE (safe, log 5): the row taken by itself issues its four fields at
once; the machine's steps write them one at a time, by WRDIR.x and WRDUTY.x. -/
def commandRow (q : Steering) (s : State) : State :=
  if s.steer = q then issueCommand (commandOf s.cfg.cmdTable q) s else s

end Sys2Proof.Machine
end

