-- ==== Sys2Proof/Machine/Interrupt.lean ====
section
/-! DEFINITION. The tick interrupt and reset: PWMTICK.L, PWMTICK.R, DISPATCH, TICKREQ, RESET (40_pwm.md,
60_exceptions.md, 70_reset_and_hazards.md). -/

namespace Sys2Proof.Machine

/-- PWMTICK.L, one part of DISPATCH (40_pwm.md R101). -/
def execPwmtickL (s : State) : Host.Outcome State Fault Refusal := .next (tickSide .left s)

/-- PWMTICK.R, the other part of DISPATCH (40_pwm.md R102). -/
def execPwmtickR (s : State) : Host.Outcome State Fault Refusal := .next (tickSide .right s)

/-- DISPATCH: take the tick interrupt, run the handler, return (60_exceptions.md R208). -/
def execDispatch (s : State) : Host.Outcome State Fault Refusal := .next (takeTick s)

/-- TICKREQ: a tick request arrives (60_exceptions.md R206). -/
def execTickreq (s : State) : Host.Outcome State Fault Refusal := .next (requestTick s)

/-- RESET: the hardware reset (70_reset_and_hazards.md R230). -/
def execReset (s : State) : Host.Outcome State Fault Refusal := .next (applyReset s)

end Sys2Proof.Machine
end

