-- ==== Sys2Proof/Machine/MotorDriver.lean ====
section
/-! DEFINITION. The motor driver boundary: the four writes of an iteration, in their fixed order
(42_motor_driver.md R150). -/

namespace Sys2Proof.Machine

/-- WRDIR.L, then SEQ 3 (42_motor_driver.md R151). -/
def writeDirectionLeft (s : State) : State := (writeDirection .left s).setSeq .wrdutyL

/-- WRDUTY.L, then SEQ 4 (42_motor_driver.md R152). -/
def writeDutyLeft (s : State) : State := (writeDuty .left s).setSeq .wrdirR

/-- WRDIR.R, then SEQ 5 (42_motor_driver.md R153). -/
def writeDirectionRight (s : State) : State := (writeDirection .right s).setSeq .wrdutyR

/-- WRDUTY.R, then SEQ 1: the loop closes at SENSE (42_motor_driver.md R154). -/
def writeDutyRight (s : State) : State := (writeDuty .right s).setSeq .sense

/-- WRDIR.L (42_motor_driver.md R151). -/
def execWrdirL (s : State) : Host.Outcome State Fault Refusal := .next (writeDirectionLeft s)

/-- WRDUTY.L (42_motor_driver.md R152). -/
def execWrdutyL (s : State) : Host.Outcome State Fault Refusal := .next (writeDutyLeft s)

/-- WRDIR.R (42_motor_driver.md R153). -/
def execWrdirR (s : State) : Host.Outcome State Fault Refusal := .next (writeDirectionRight s)

/-- WRDUTY.R (42_motor_driver.md R154). -/
def execWrdutyR (s : State) : Host.Outcome State Fault Refusal := .next (writeDutyRight s)

end Sys2Proof.Machine
end

