-- ==== Sys2Proof/Machine/Sequencer.lean ====
section
/-! DEFINITION. The sequencer's own micro-operations: CFGRD and IDLE (43_sequencer.md). -/

namespace Sys2Proof.Machine

/-- CFGRD: latch the polarity and choose run or halt, both pins read at one instant (43_sequencer.md R171). -/
def readConfiguration (s : State) : State :=
  let p := readCfgPol s
  let h := readCfgHalt s
  if h then (s.setPol p).setSeq .idle else ((s.setPol p).setTickEn true).setSeq .sense

/-- IDLE: SEQ stays 7, no other effect (43_sequencer.md R178). -/
def stayIdle (s : State) : State := s.setSeq .idle

/-- CFGRD (43_sequencer.md R171). -/
def execCfgrd (s : State) : Host.Outcome State Fault Refusal := .next (readConfiguration s)

/-- IDLE (43_sequencer.md R178). -/
def execIdle (s : State) : Host.Outcome State Fault Refusal := .next (stayIdle s)

end Sys2Proof.Machine
end

