-- ==== Sys2Proof/Machine/Steering.lean ====
section
/-! DEFINITION. The steering unit: SENSE, its classification rows CLS.* and the command rows CMD.*
(41_steering.md). The rows are the decode tables of SENSE and of the four writes (30_encoding.md R70). -/

namespace Sys2Proof.Machine

/-- SENSE: sample, classify, update STATE, go on to WRDIR.L (41_steering.md R120). -/
def senseAndClassify (s : State) : State := (s.setSteer (classify s.steer (activityOf s))).setSeq .wrdirL

/-- SENSE (41_steering.md R120). -/
def execSense (s : State) : Host.Outcome State Fault Refusal := .next (senseAndClassify s)

/-- CLS.CENTERED: A[3] = 1 (41_steering.md R122). -/
def execClsCentered (s : State) : Host.Outcome State Fault Refusal := .next (classRow 0x08 0x08 .centered s)

/-- CLS.SOFTLEFT: A[3] = 0, A[4] = 1 (41_steering.md R123). -/
def execClsSoftleft (s : State) : Host.Outcome State Fault Refusal := .next (classRow 0x18 0x10 .softLeft s)

/-- CLS.SOFTRIGHT: A[4:3] = 0, A[2] = 1 (41_steering.md R124). -/
def execClsSoftright (s : State) : Host.Outcome State Fault Refusal := .next (classRow 0x1C 0x04 .softRight s)

/-- CLS.HARDLEFT: A[4:2] = 0, A[5] = 1 (41_steering.md R125). -/
def execClsHardleft (s : State) : Host.Outcome State Fault Refusal := .next (classRow 0x3C 0x20 .hardLeft s)

/-- CLS.HARDRIGHT: A[5:2] = 0, A[1] = 1 (41_steering.md R126). -/
def execClsHardright (s : State) : Host.Outcome State Fault Refusal := .next (classRow 0x3E 0x02 .hardRight s)

/-- CLS.LOSTLEFT: A[5:1] = 0, A[6] = 1 (41_steering.md R127). -/
def execClsLostleft (s : State) : Host.Outcome State Fault Refusal := .next (classRow 0x7E 0x40 .lostLeft s)

/-- CLS.LOSTRIGHT: A = 0b0000001 (41_steering.md R128). -/
def execClsLostright (s : State) : Host.Outcome State Fault Refusal := .next (classRow 0x7F 0x01 .lostRight s)

/-- CLS.HOLD: A = 0, STATE is written with its own value (41_steering.md R129, R130). -/
def execClsHold (s : State) : Host.Outcome State Fault Refusal := .next (classRow 0x7F 0x00 s.steer s)

/-- CMD.CENTERED (41_steering.md R136). -/
def execCmdCentered (s : State) : Host.Outcome State Fault Refusal := .next (commandRow .centered s)

/-- CMD.SOFTLEFT (41_steering.md R137). -/
def execCmdSoftleft (s : State) : Host.Outcome State Fault Refusal := .next (commandRow .softLeft s)

/-- CMD.SOFTRIGHT (41_steering.md R138). -/
def execCmdSoftright (s : State) : Host.Outcome State Fault Refusal := .next (commandRow .softRight s)

/-- CMD.HARDLEFT (41_steering.md R139). -/
def execCmdHardleft (s : State) : Host.Outcome State Fault Refusal := .next (commandRow .hardLeft s)

/-- CMD.HARDRIGHT (41_steering.md R140). -/
def execCmdHardright (s : State) : Host.Outcome State Fault Refusal := .next (commandRow .hardRight s)

/-- CMD.LOSTLEFT (41_steering.md R141). -/
def execCmdLostleft (s : State) : Host.Outcome State Fault Refusal := .next (commandRow .lostLeft s)

/-- CMD.LOSTRIGHT (41_steering.md R142). -/
def execCmdLostright (s : State) : Host.Outcome State Fault Refusal := .next (commandRow .lostRight s)

end Sys2Proof.Machine
end

