-- ==== Sys2Proof/Machine/Stimulus.lean ====
section
/-! DEFINITION. The words of a stimulus trace (30_encoding.md R81): a testbench convention, one schedule over the step
relation of 60_exceptions.md R213 (90_conflicts.md C7). -/

namespace Sys2Proof.Machine

/-- The micro-operation x[SEQ] names, as MAIN performs it (43_sequencer.md R170, 30_encoding.md R74). -/
def mainStep (s : State) : State :=
  match s.seq with
  | .cfgrd => readConfiguration s
  | .sense => senseAndClassify s
  | .wrdirL => writeDirectionLeft s
  | .wrdutyL => writeDutyLeft s
  | .wrdirR => writeDirectionRight s
  | .wrdutyR => writeDutyRight s
  | .idle => stayIdle s

/-- STEP: one micro-operation of MAIN; then DISPATCH, if it is enabled (30_encoding.md R81). -/
def execStep (s : State) : Host.Outcome State Fault Refusal := .next (dispatchIfEnabled (mainStep s))

/-- TICK: TICKREQ; then DISPATCH, if it is enabled (30_encoding.md R81). -/
def execTick (s : State) : Host.Outcome State Fault Refusal := .next (dispatchIfEnabled (requestTick s))

/-- SENS v: the environment drives SENS_RAW with v (30_encoding.md R81). -/
def execSens (v : Sens7) (s : State) : Host.Outcome State Fault Refusal := .next (s.setSensRaw v)

/-- CFG h p: the environment drives CFG_HALT with h and CFG_POL with p (30_encoding.md R81). -/
def execCfg (h p : Bool) (s : State) : Host.Outcome State Fault Refusal := .next (s.setCfgPins h p)

/-- RST: RESET (30_encoding.md R81). -/
def execRst (s : State) : Host.Outcome State Fault Refusal := .next (applyReset s)

end Sys2Proof.Machine
end

