-- ==== Sys2Proof/Machine/Dispatch.lean ====
section
/-! DEFINITION. One arm per row of opcode_table.json: the meaning of every instruction. -/

namespace Sys2Proof.Machine

def exec (i : Instr) (s : State) : Host.Outcome State Fault Refusal :=
  match i with
  | .cfgrd => Sys2Proof.Machine.execCfgrd s
  | .sense => Sys2Proof.Machine.execSense s
  | .wrdirL => Sys2Proof.Machine.execWrdirL s
  | .wrdutyL => Sys2Proof.Machine.execWrdutyL s
  | .wrdirR => Sys2Proof.Machine.execWrdirR s
  | .wrdutyR => Sys2Proof.Machine.execWrdutyR s
  | .idle => Sys2Proof.Machine.execIdle s
  | .pwmtickL => Sys2Proof.Machine.execPwmtickL s
  | .pwmtickR => Sys2Proof.Machine.execPwmtickR s
  | .dispatch => Sys2Proof.Machine.execDispatch s
  | .tickreq => Sys2Proof.Machine.execTickreq s
  | .reset => Sys2Proof.Machine.execReset s
  | .clsCentered => Sys2Proof.Machine.execClsCentered s
  | .clsSoftleft => Sys2Proof.Machine.execClsSoftleft s
  | .clsSoftright => Sys2Proof.Machine.execClsSoftright s
  | .clsHardleft => Sys2Proof.Machine.execClsHardleft s
  | .clsHardright => Sys2Proof.Machine.execClsHardright s
  | .clsLostleft => Sys2Proof.Machine.execClsLostleft s
  | .clsLostright => Sys2Proof.Machine.execClsLostright s
  | .clsHold => Sys2Proof.Machine.execClsHold s
  | .cmdCentered => Sys2Proof.Machine.execCmdCentered s
  | .cmdSoftleft => Sys2Proof.Machine.execCmdSoftleft s
  | .cmdSoftright => Sys2Proof.Machine.execCmdSoftright s
  | .cmdHardleft => Sys2Proof.Machine.execCmdHardleft s
  | .cmdHardright => Sys2Proof.Machine.execCmdHardright s
  | .cmdLostleft => Sys2Proof.Machine.execCmdLostleft s
  | .cmdLostright => Sys2Proof.Machine.execCmdLostright s
  | .step => Sys2Proof.Machine.execStep s
  | .tick => Sys2Proof.Machine.execTick s
  | .sens v => Sys2Proof.Machine.execSens v s
  | .cfg h p => Sys2Proof.Machine.execCfg h p s
  | .rst => Sys2Proof.Machine.execRst s

end Sys2Proof.Machine
end

