-- ==== Sys2Proof/Machine/Schedule.lean ====
section
/-! DEFINITION. Which operation runs at a step, and what is left of the environment's moves: the selection of the step
relation (60_exceptions.md R213) and of the testbench's scheduler (30_encoding.md R81). -/

namespace Sys2Proof.Machine

/-- The step the core takes by itself: DISPATCH when it is enabled, the micro-operation x[SEQ] names otherwise
(60_exceptions.md R210, R212). -/
def coreInstr (s : State) : Instr := if dispatchEnabled s then .dispatch else s.seq.instr

/-- The instruction of one move other than the core's own, with the moves it leaves. A change of one configuration
pin is a `cfg` that leaves the other at its level.
DEDUCED (safe, log 7): a STEP word waits while DISPATCH is enabled, which has priority over a MAIN step (R212). -/
def fetchMove (s : State) (m : Move) (rest : List Move) : Except Refusal (Instr × List Move) :=
  match m with
  | .core => .ok (coreInstr s, rest)
  | .tickIn => .ok (.tickreq, rest)
  | .rst => .ok (.reset, rest)
  | .sensRaw v => .ok (.sens v, rest)
  | .cfgPol p => .ok (.cfg s.cfgHalt p, rest)
  | .cfgHalt h => .ok (.cfg h s.cfgPol, rest)
  | .stim w =>
    match decodeStim w with
    | .ok .step => if dispatchEnabled s then .ok (.dispatch, m :: rest) else .ok (.step, rest)
    | .ok i => .ok (i, rest)
    | .error _ => .error (.illFormedStimulus w)

/-- The instruction of the next step, with the moves it leaves. DESIGN CHOICE (unsafe, log 1): when no move is left
the environment does nothing more and the core goes on by itself. -/
def fetch (s : State) : Except Refusal (Instr × List Move) :=
  match s.moves with
  | [] => .ok (coreInstr s, [])
  | m :: rest => fetchMove s m rest

/-- Put a move before the environment's others. -/
def State.pushMove (s : State) (m : Move) : State := s.setMoves (m :: s.moves)

/-- Drop a pending tick that would be dispatched before MAIN's next step; leave any other alone. -/
def State.letMainRun (s : State) : State := if dispatchEnabled s then s.setTickPend false else s

/-- MAIN's next step is the micro-operation of `q`. -/
def State.atSeq (s : State) (q : SeqStep) : State := ((s.setSeq q).letMainRun).pushMove .core

/-- The next step is DISPATCH: a tick is pending and, where the hold would keep it, SEQ is moved out of the write
window. -/
def State.atDispatch (s : State) : State :=
  (if held s then (s.setSeq .sense).setTickPend true else s.setTickPend true).pushMove .core

/-- The next step is SENSE on a reading whose activity vector is `a`. -/
def State.atReading (s : State) (a : Sens7) : State := (s.setSensRaw (rawOfActivity s.pol a)).atSeq .sense

/-- The next step is WRDIR.L with the command row of `q`. -/
def State.atCommand (s : State) (q : Steering) : State := (s.setSteer q).atSeq .wrdirL

/-- Arrange that the very next step runs an instruction whose code is `w`: the sequencer step for a micro-operation, a
pending tick for DISPATCH and its parts, the reading or the state that selects a decode row for the operation that
decodes it, the environment's move for an event, and the word itself for a stimulus. -/
def State.place (s : State) (i : Instr) (w : Stim10) : State :=
  match i with
  | .cfgrd => s.atSeq .cfgrd
  | .sense => s.atSeq .sense
  | .wrdirL => s.atSeq .wrdirL
  | .wrdutyL => s.atSeq .wrdutyL
  | .wrdirR => s.atSeq .wrdirR
  | .wrdutyR => s.atSeq .wrdutyR
  | .idle => s.atSeq .idle
  | .pwmtickL => s.atDispatch
  | .pwmtickR => s.atDispatch
  | .dispatch => s.atDispatch
  | .tickreq => s.pushMove .tickIn
  | .reset => s.pushMove .rst
  | .clsCentered => s.atReading (stimArg w)
  | .clsSoftleft => s.atReading (stimArg w)
  | .clsSoftright => s.atReading (stimArg w)
  | .clsHardleft => s.atReading (stimArg w)
  | .clsHardright => s.atReading (stimArg w)
  | .clsLostleft => s.atReading (stimArg w)
  | .clsLostright => s.atReading (stimArg w)
  | .clsHold => s.atReading (stimArg w)
  | .cmdCentered => s.atCommand .centered
  | .cmdSoftleft => s.atCommand .softLeft
  | .cmdSoftright => s.atCommand .softRight
  | .cmdHardleft => s.atCommand .hardLeft
  | .cmdHardright => s.atCommand .hardRight
  | .cmdLostleft => s.atCommand .lostLeft
  | .cmdLostright => s.atCommand .lostRight
  | .step => s.letMainRun.pushMove (.stim w)
  | .tick => s.pushMove (.stim w)
  | .sens _ => s.pushMove (.stim w)
  | .cfg _ _ => s.pushMove (.stim w)
  | .rst => s.pushMove (.stim w)

/-- The state whose next step runs a bare table word; a word the decoder refuses is placed as an ill-formed stimulus
(kind 4, reserved), which the step refuses. -/
def State.placeTableWord (s : State) (nbits w : Nat) : State :=
  match decodeTableWord nbits w with
  | some i => s.place i (BitVec.ofNat 10 w)
  | none => s.pushMove (.stim 0x200)

end Sys2Proof.Machine
end

