-- ==== Sys2Proof/Machine/Step.lean ====
section
/-! DEFINITION. One step of the machine (60_exceptions.md R213), and a state whose next step runs a given word. -/

namespace Sys2Proof.Machine

/-- One step: the selected operation runs on the state with the move it used up taken away. -/
def step (s : State) : Host.Outcome State Fault Refusal :=
  match fetch s with
  | .ok (i, rest) => exec i (s.setMoves rest)
  | .error r => .refused r

/-- The state with the instruction whose bits are `w` placed where the next step finds it. -/
def State.withFetchWord (s : State) (nbits w : Nat) : State := s.placeTableWord nbits w

end Sys2Proof.Machine
end

