-- ==== Sys2Proof/Machine/Trace.lean ====
section
/-! DEFINITION. The trace language: how a pseudo-operation expands (30_encoding.md R82) and how a trace of words is
put before the machine (R81). -/

namespace Sys2Proof.Machine

/-- The words of a pseudo-operation (30_encoding.md R82); none for a LOOP elsewhere than at SENSE. -/
def expand (s : State) (p : Pseudo) : Option (List Stim10) :=
  if p.legal s.seq then
    match p with
    | .loop => some (List.replicate 5 (encode .step).bits)
    | .boot h pl => some [(encode .rst).bits, (encode (.cfg h pl)).bits, (encode .step).bits]
    | .ticks n => some (List.replicate n (encode .tick).bits)
    | .sensa a => some [(encode (.sens (rawOfActivity s.pol a))).bits]
  else none

/-- The state with a trace as the environment's moves. -/
def State.withTrace (s : State) (ws : List Stim10) : State := s.setMoves (ws.map .stim)

end Sys2Proof.Machine
end

