-- ==== Sys2Proof/Safety.lean ====
section
/-! DEFINITION. The terms claims are made in: the step relation of 60_exceptions.md R213, its finite and infinite
runs, the named premises NO_OVERRUN and TICK_SPARSE and weak fairness, and the invariants of 10_state.md R39. -/

namespace Sys2Proof.Machine

/-- The rows of the step relation (60_exceptions.md R213). -/
inductive Label where
  | reset
  | input
  | tickreq
  | dispatch
  | main
  deriving DecidableEq, Repr

/-- The step relation: from a state the core can take any one of these steps, and no other (60_exceptions.md R213).
It leaves the list of moves alone: that list is how `step` chooses among these. -/
inductive CoreStep : Label → State → State → Prop where
  | reset (s : State) : CoreStep .reset s (applyReset s)
  | sensRaw (s : State) (v : Sens7) : CoreStep .input s (s.setSensRaw v)
  | cfgPol (s : State) (p : Bool) : CoreStep .input s (s.setCfgPins s.cfgHalt p)
  | cfgHalt (s : State) (h : Bool) : CoreStep .input s (s.setCfgPins h s.cfgPol)
  | tickreq (s : State) : CoreStep .tickreq s (requestTick s)
  | dispatch (s : State) (enabled : dispatchEnabled s = true) : CoreStep .dispatch s (takeTick s)
  | main (s : State) (enabled : mainEnabled s = true) : CoreStep .main s (mainStep s)

/-- A finite run: the states before each step with the step's label, from the first state to the last. -/
inductive CoreTrace : State → List (State × Label) → State → Prop where
  | nil (s : State) : CoreTrace s [] s
  | cons {s t u : State} {l : Label} {tr : List (State × Label)} :
      CoreStep l s t → CoreTrace t tr u → CoreTrace s ((s, l) :: tr) u

/-- The labels of a finite run. -/
def labels (tr : List (State × Label)) : List Label := tr.map Prod.snd

/-- An infinite run of the step relation. -/
def InfiniteRun (run : Nat → State) (lab : Nat → Label) : Prop := ∀ n, CoreStep (lab n) (run n) (run (n + 1))

/-- Infinitely many steps of a run carry a label. -/
def InfinitelyOften (lab : Nat → Label) (l : Label) : Prop := ∀ n, ∃ m, n ≤ m ∧ lab m = l

/-- Premise NO_OVERRUN: no TICKREQ while TICK_PEND = 1 (70_reset_and_hazards.md R242). -/
def NoOverrun (tr : List (State × Label)) : Prop := ∀ p ∈ tr, p.2 = .tickreq → p.1.tickPend = false

/-- Premise TICK_SPARSE: at most one DISPATCH between two consecutive MAIN steps (70_reset_and_hazards.md R243). -/
def TickSparse (tr : List (State × Label)) : Prop :=
  ∀ before between after, labels tr = before ++ .main :: between ++ .main :: after → .main ∉ between →
    between.count .dispatch ≤ 1

/-- Weak fairness (60_exceptions.md R215). -/
def WeaklyFair (lab : Nat → Label) : Prop :=
  InfinitelyOften lab .main ∧ (InfinitelyOften lab .tickreq → InfinitelyOften lab .dispatch)

/-- Every stimulus word among the environment's moves is well formed (30_encoding.md R81). -/
def MovesWellFormed (s : State) : Prop := ∀ m ∈ s.moves, m.wellFormed = true

/-- The counter of a side is below PERIOD (10_state.md R23). -/
def CountersInRange (s : State) : Prop := ∀ x, (s.side x).cnt.toNat < s.cfg.period

/-- The two enable lines of a pair are never different (10_state.md R29). -/
def EnablesPaired (s : State) : Prop := ∀ x, (s.side x).en.code = 0b00 ∨ (s.side x).en.code = 0b11

/-- A selector pair is 0b00, 0b01 or 0b10 (10_state.md R28). -/
def SelectorsLegal (s : State) : Prop := 
  ∀ x, (s.side x).dsel.code = 0b00 ∨ (s.side x).dsel.code = 0b01 ∨ (s.side x).dsel.code = 0b10

/-- TICK_EN = 1 exactly in the RUN phase (10_state.md R32, R39 item 6). -/
def TickEnabledInRun (s : State) : Prop := s.tickEn = true ↔ s.phase = .run

/-- TICK_PEND = 1 implies TICK_EN = 1 (10_state.md R33). -/
def PendingOnlyEnabled (s : State) : Prop := s.tickPend = true → s.tickEn = true

/-- 10_state.md R39 items 1, 2, 3 (the range), 6 and 7, of an instance with well-formed parameters; items 2, 4, 5
and the range of item 3 hold of every state by the types of `en`, `steer`, `seq` and `dsel`. -/
def RegistersInv (s : State) : Prop :=
  s.cfg.WellFormed ∧ CountersInRange s ∧ EnablesPaired s ∧ SelectorsLegal s ∧ TickEnabledInRun s ∧ PendingOnlyEnabled s

/-- Outside RUN nothing has moved since reset but POL and SEQ (10_state.md R39 item 8, 60_exceptions.md R220). -/
def QuietOutsideRun (s : State) : Prop :=
  s.phase ≠ .run → s.left = SideRegs.reset s.cfg.cntInitL ∧ s.right = SideRegs.reset s.cfg.cntInitR ∧
    s.steer = s.cfg.steerInit ∧ s.tickEn = false ∧ s.tickPend = false

/-- The selector a side holds for the command of state `q`, or after reset for none (10_state.md R28). -/
def shownDsel (t : CmdTable) (x : Side) : Option Steering → DirSel
  | none => .none
  | some q => selectorOf (sideCommand (commandOf t q) x).dir

/-- The duty a side holds for the command of state `q`, or after reset for none (10_state.md R27). -/
def shownDuty (t : CmdTable) (x : Side) : Option Steering → Word8
  | none => 0
  | some q => (sideCommand (commandOf t q) x).duty

/-- A side shows one command whole: its selector pair and its duty belong together. -/
def SideShows (s : State) (x : Side) (q : Option Steering) : Prop :=
  (s.side x).dsel = shownDsel s.cfg.cmdTable x q ∧ (s.side x).duty = shownDuty s.cfg.cmdTable x q

/-- Both sides show the command of one state, or of none. -/
def DriverShows (s : State) (q : Option Steering) : Prop := ∀ x, SideShows s x q

/-- What the motor driver's registers hold at each point of the loop (42_motor_driver.md R155, R156): the command of
STATE where it has been written, an earlier state's where it has not, and reset's before the first write. -/
def DriverInv (s : State) : Prop :=
  match s.seq with
  | .cfgrd => DriverShows s none
  | .idle => DriverShows s none
  | .sense => DriverShows s none ∨ DriverShows s (some s.steer)
  | .wrdirL => ∃ old, DriverShows s old
  | .wrdutyL => s.left.dsel = shownDsel s.cfg.cmdTable .left (some s.steer) ∧
      ∃ old, s.left.duty = shownDuty s.cfg.cmdTable .left old ∧ SideShows s .right old
  | .wrdirR => SideShows s .left (some s.steer) ∧ ∃ old, SideShows s .right old
  | .wrdutyR => SideShows s .left (some s.steer) ∧ s.right.dsel = shownDsel s.cfg.cmdTable .right (some s.steer) ∧
      ∃ old, s.right.duty = shownDuty s.cfg.cmdTable .right old

/-- The counters' phase skew is the instance's (40_pwm.md R111), written without subtraction. -/
def SkewInv (s : State) : Prop :=
  (s.right.cnt.toNat + s.cfg.cntInitL.toNat) % s.cfg.period = (s.left.cnt.toNat + s.cfg.cntInitR.toNat) % s.cfg.period

/-- With the reference table the duties are 0, 3, 4 or 7 (10_state.md R39 item 9). -/
def ReferenceDuties (s : State) : Prop :=
  s.cfg.cmdTable = CmdTable.reference ∧
    ∀ x, (s.side x).duty = 0 ∨ (s.side x).duty = 3 ∨ (s.side x).duty = 4 ∨ (s.side x).duty = 7

/-- Several instructions one after the other, stopping where one stops. -/
def execAll : List Instr → State → Host.Outcome State Fault Refusal
  | [], s => .next s
  | i :: is, s =>
    match exec i s with
    | .next t => execAll is t
    | .fault r => .fault r
    | .refused r => .refused r

/-- `TICK_PEND` as a number, for counting requests. -/
def pendingCount (s : State) : Nat := if s.tickPend then 1 else 0

/-- The state of a side after `n` ticks with nothing else happening to it (40_pwm.md R103). -/
def ticked (period : Nat) : Nat → SideRegs → SideRegs
  | 0, r => r
  | n + 1, r => ticked period n (r.pwmTick period)

/-- How many of the next `n` ticks drive the side's enable pair high (40_pwm.md R106). -/
def highTicks (period : Nat) : Nat → SideRegs → Nat
  | 0, _ => 0
  | n + 1, r => (if (r.pwmTick period).en = .energized then 1 else 0) + highTicks period n (r.pwmTick period)

/-- How many of the next `n` ticks drive the side's enable pair low (40_pwm.md R106). -/
def lowTicks (period : Nat) : Nat → SideRegs → Nat
  | 0, _ => 0
  | n + 1, r => (if (r.pwmTick period).en = .coast then 1 else 0) + lowTicks period n (r.pwmTick period)

end Sys2Proof.Machine
end

