-- ==== Sys2Proof/Certificates/Slice0/Obligations.lean ====
section
/-! DEFINITION. The statements for the provers. Each docstring names the rule it formalises. -/

open Sys2Proof Sys2Proof.Machine

/-! ### Encoding -/

/-- Decode after encode is the identity: every operand is read back, and each row of the table has a code of its own
(30_encoding.md R85). For PWMTICK.L and PWMTICK.R the code of their own is the model's choice (log 6): R85 gives
DISPATCH and its two parts the one bit x[TICK_PEND], and the model's selectors `tickPendPartL` and `tickPendPartR`
tell the parts apart. -/
def Obligations.DecodeOfEncodeIsTheInstruction : Prop := ∀ i : Instr, decode (encode i) = .ok i

/-- 30_encoding.md R81: which words are stimuli, and no bit of one is dropped. -/
def Obligations.StimulusWordsDecodeExactlyWhenWellFormed : Prop :=
  ∀ w : Stim10,
    ((∃ i, decodeStim w = .ok i) ↔
      (stimKind w = 0b000 ∧ stimArg w = 0) ∨ (stimKind w = 0b001 ∧ stimArg w = 0) ∨ stimKind w = 0b010 ∨
        (stimKind w = 0b011 ∧ (stimArg w).extractLsb' 2 5 = 0) ∨ (stimKind w = 0b111 ∧ stimArg w = 0)) ∧
    ∀ i, decodeStim w = .ok i → encode i = ⟨.stim10, w⟩

/-- 30_encoding.md R75 (the row counts are the spec's own derivation): exactly one row is selected for each of the 128
values of A, the rows selecting 64, 32, 16, 8, 4, 2, 1 and 1 of them. -/
def Obligations.EveryActivityVectorSelectsOneRow : Prop :=
  (∀ a : Sens7, (clsRows.filter (·.selects ⟨.sens7, a.setWidth 10⟩)).length = 1) ∧
  clsRows.map (fun r => ((List.range 128).filter fun n => r.selects ⟨.sens7, BitVec.ofNat 10 n⟩).length) =
    [64, 32, 16, 8, 4, 2, 1, 1]

/-- 30_encoding.md R83: the reserved codes of SEQ3, ST3 and STIM10 select nothing, and those of DSEL2 and EN2 are no
value of a latch. That reading such a pair back refuses it by name is the model's choice (log 10, after
93_implementation_defined.md U11). -/
def Obligations.ReservedCodesAreRefused : Prop :=
  decode ⟨.seq3, 6⟩ = .error .reservedSeq ∧ decode ⟨.st3, 7⟩ = .error .reservedState ∧
  DirSel.ofCode 0b11 = .error .reservedSelector ∧ Enable.ofCode 0b01 = .error .reservedEnable ∧
  Enable.ofCode 0b10 = .error .reservedEnable ∧
  ∀ w : Stim10, stimKind w = 0b100 ∨ stimKind w = 0b101 ∨ stimKind w = 0b110 → decodeStim w = .error .illFormedStimulus

/-- 30_encoding.md R73 and R74: the codes of STATE and SEQ, each naming its row. -/
def Obligations.StateAndSequencerCodesNameTheirRows : Prop :=
  (∀ q : SeqStep, SeqStep.ofCode q.code = some q ∧ decode ⟨.seq3, q.code.setWidth 10⟩ = .ok q.instr) ∧
  (∀ q : Steering, Steering.ofCode q.code = some q ∧ decode ⟨.st3, q.code.setWidth 10⟩ = .ok q.cmdRow) ∧
  (∀ c : BitVec 3, SeqStep.ofCode c = none ↔ c = 6) ∧ ∀ c : BitVec 3, Steering.ofCode c = none ↔ c = 7

/-- 30_encoding.md R79: the packed command is bit 8 the direction, bits 7:0 the duty, and nothing is lost. -/
def Obligations.PackedCommandRoundTrips : Prop :=
  (∀ m : MotorCommand, MotorCommand.unpack m.pack = m ∧ (m.pack.getLsbD 8 = true ↔ m.dir = .backward) ∧
    m.pack.extractLsb' 0 8 = m.duty) ∧
  ∀ w : Cmd9, (MotorCommand.unpack w).pack = w

/-- A few words written out from the spec's encodings decode to their rows (30_encoding.md R74, R75, R76, R81, R85).
-/
def Obligations.WrittenOutWordsDecode : Prop :=
  decode ⟨.seq3, 0b010⟩ = .ok .wrdirL ∧ decode ⟨.sens7, 0b0100010⟩ = .ok .clsHardleft ∧
  decode ⟨.st3, 0b101⟩ = .ok .cmdLostleft ∧ decode ⟨.tickPend, 1⟩ = .ok .dispatch ∧ decode ⟨.tickIn, 1⟩ = .ok .tickreq ∧
  decodeStim 0b0100010000 = .ok (.sens 0b0010000) ∧ decodeStim 0b0110000010 = .ok (.cfg true false)

/-! ### The step -/

/-- A step runs the instruction the move stands for on the state with the move taken away; a stimulus word is decoded.
A STEP word met while DISPATCH is enabled is the model's choice (log 7): DISPATCH runs and the word waits. With no
move left the core goes on by itself (log 1). -/
def Obligations.StepRunsTheDecodedInstruction : Prop :=
  ∀ (s : State) (rest : List Move),
    (s.moves = [] → step s = exec (coreInstr s) s) ∧
    (s.moves = .core :: rest → step s = exec (coreInstr s) (s.setMoves rest)) ∧
    (s.moves = .tickIn :: rest → step s = exec .tickreq (s.setMoves rest)) ∧
    (s.moves = .rst :: rest → step s = exec .reset (s.setMoves rest)) ∧
    (∀ v, s.moves = .sensRaw v :: rest → step s = exec (.sens v) (s.setMoves rest)) ∧
    (∀ p, s.moves = .cfgPol p :: rest → step s = exec (.cfg s.cfgHalt p) (s.setMoves rest)) ∧
    (∀ h, s.moves = .cfgHalt h :: rest → step s = exec (.cfg h s.cfgPol) (s.setMoves rest)) ∧
    (∀ w i, s.moves = .stim w :: rest → decodeStim w = .ok i → ¬(i = .step ∧ dispatchEnabled s = true) →
      step s = exec i (s.setMoves rest)) ∧
    (∀ w, s.moves = .stim w :: rest → decodeStim w = .ok .step → dispatchEnabled s = true → step s = exec .dispatch s) ∧
    (∀ w e, s.moves = .stim w :: rest → decodeStim w = .error e → step s = .refused (.illFormedStimulus w))

/-- 60_exceptions.md R210, R211, R212: left to itself the core dispatches a pending tick unless it is held, and
performs the micro-operation SEQ names otherwise. -/
def Obligations.PendingTickGoesBeforeMainUnlessHeld : Prop :=
  ∀ s : State, s.moves = [] →
    step s =
      if s.tickPend = true ∧ ¬(s.cfg.cmdAtomic = true ∧ (s.seq = .wrdutyL ∨ s.seq = .wrdutyR)) then exec .dispatch s
      else exec s.seq.instr s

/-- Every step of the machine is one or two steps of the relation of 60_exceptions.md R213 (two for the STEP and TICK
words that end in a DISPATCH and for a CFG word): the machine does nothing the relation does not admit. -/
def Obligations.EveryStepIsARunOfTheRelation : Prop :=
  ∀ s t : State, step s = .next t →
    ∃ tr, CoreTrace (s.setMoves []) tr (t.setMoves []) ∧ 1 ≤ tr.length ∧ tr.length ≤ 2

/-- Every step the relation of 60_exceptions.md R213 admits is a step of the machine for some move of the environment:
the machine leaves no behaviour out. -/
def Obligations.EveryRelationStepIsAStep : Prop :=
  ∀ (l : Label) (s t : State) (ms : List Move), CoreStep l s t →
    ∃ m, step (s.setMoves (m :: ms)) = .next (t.setMoves ms)

/-- 60_exceptions.md R200: a step has a next state, and the environment's moves stay well formed, unless the next move
is an ill-formed word; then it is refused by that word's name. -/
def Obligations.StepStopsOnlyAtAnIllFormedWord : Prop :=
  (∀ s : State, MovesWellFormed s → ∃ t, step s = .next t ∧ MovesWellFormed t) ∧
  (∀ (s : State) (r : Refusal), step s = .refused r →
    ∃ w rest, s.moves = .stim w :: rest ∧ stimWellFormed w = false ∧ r = .illFormedStimulus w) ∧
  ∀ (s : State) (f : Fault), step s ≠ .fault f

/-! ### The sequencer -/

/-- 43_sequencer.md R171: CFGRD and its frame. -/
def Obligations.CfgrdLatchesPolarityAndChoosesRunOrHalt : Prop :=
  ∀ s : State, exec .cfgrd s = .next
    (if s.cfgHalt = true then { s with pol := s.cfgPol, seq := .idle }
     else { s with pol := s.cfgPol, tickEn := true, seq := .sense })

/-- 43_sequencer.md R178: at SEQ 7 IDLE leaves the state as it is; nothing but SEQ is ever written. -/
def Obligations.IdleChangesNothing : Prop :=
  ∀ s : State, exec .idle s = .next { s with seq := .idle } ∧ (s.seq = .idle → exec .idle s = .next s)

/-- 43_sequencer.md R182 (the spec's own derivation) and 10_state.md R31, R32: a step out of the run loop is a RESET,
and inside it the polarity and the tick enable stand. -/
def Obligations.RunLoopIsLeftOnlyByReset : Prop :=
  ∀ (l : Label) (s t : State), CoreStep l s t → s.phase = .run →
    (l = .reset ∧ t.phase = .boot) ∨ (t.phase = .run ∧ t.pol = s.pol ∧ t.tickEn = s.tickEn)

/-- Configured halt (43_sequencer.md R178, 60_exceptions.md R226): with no reset, no register changes in a run of any
length from the halt phase, whatever the pins and the tick line do. That ticks are dropped in halt is the spec's own
decision (92_eei_decisions.md D16, 93_implementation_defined.md U10). -/
def Obligations.HaltedRunChangesNoRegister : Prop :=
  ∀ (s t : State) (tr : List (State × Label)), CoreTrace s tr t → RegistersInv s → s.phase = .halt →
    .reset ∉ labels tr →
    t.left = s.left ∧ t.right = s.right ∧ t.steer = s.steer ∧ t.pol = s.pol ∧ t.seq = s.seq ∧ t.tickEn = s.tickEn ∧
      t.tickPend = s.tickPend

/-- 20_memory.md R57: only SENSE looks at SENS_RAW and only CFGRD at the configuration pins; every other
micro-operation does the same whatever their levels. -/
def Obligations.PinsAreReadOnlyBySenseAndCfgrd : Prop :=
  (∀ (s t : State) (v : Sens7), s.seq ≠ .sense → exec s.seq.instr s = .next t →
    exec s.seq.instr (s.setSensRaw v) = .next (t.setSensRaw v)) ∧
  ∀ (s t : State) (h p : Bool), s.seq ≠ .cfgrd → exec s.seq.instr s = .next t →
    exec s.seq.instr (s.setCfgPins h p) = .next (t.setCfgPins h p)

/-! ### The steering unit -/

/-- 41_steering.md R120: SENSE and its frame, each sensor active when its line is at the level of POL. -/
def Obligations.SenseClassifiesByFixedPriority : Prop :=
  ∀ s : State, exec .sense s = .next
    { s with
      steer :=
        if s.sensRaw.getLsbD 3 = s.pol then .centered
        else if s.sensRaw.getLsbD 4 = s.pol then .softLeft
        else if s.sensRaw.getLsbD 2 = s.pol then .softRight
        else if s.sensRaw.getLsbD 5 = s.pol then .hardLeft
        else if s.sensRaw.getLsbD 1 = s.pol then .hardRight
        else if s.sensRaw.getLsbD 6 = s.pol then .lostLeft
        else if s.sensRaw.getLsbD 0 = s.pol then .lostRight
        else s.steer
      seq := .wrdirL }

/-- 30_encoding.md R85: SENSE can be written from the SENS7 rows alone. The row that the activity vector decodes to,
and then SEQ, is all SENSE does. -/
def Obligations.SenseIsTheRowItsReadingSelects : Prop :=
  ∀ s : State, ∃ i u, decode ⟨.sens7, (activityOf s).setWidth 10⟩ = .ok i ∧ exec i s = .next u ∧
    exec .sense s = .next (u.setSeq .wrdirL)

/-- 41_steering.md R122 to R129: each classification row, its condition on the activity vector and its effect. That a
row taken by itself does nothing when it is not selected is the model's choice (log 5). -/
def Obligations.ClassificationRowsWriteTheirState : Prop :=
  ∀ (s : State) (a : Sens7), a = activityOf s →
    exec .clsCentered s = .next (if a.getLsbD 3 = true then { s with steer := .centered } else s) ∧
    exec .clsSoftleft s =
      .next (if a.getLsbD 3 = false ∧ a.getLsbD 4 = true then { s with steer := .softLeft } else s) ∧
    exec .clsSoftright s =
      .next (if a.extractLsb' 3 2 = 0 ∧ a.getLsbD 2 = true then { s with steer := .softRight } else s) ∧
    exec .clsHardleft s =
      .next (if a.extractLsb' 2 3 = 0 ∧ a.getLsbD 5 = true then { s with steer := .hardLeft } else s) ∧
    exec .clsHardright s =
      .next (if a.extractLsb' 2 4 = 0 ∧ a.getLsbD 1 = true then { s with steer := .hardRight } else s) ∧
    exec .clsLostleft s =
      .next (if a.extractLsb' 1 5 = 0 ∧ a.getLsbD 6 = true then { s with steer := .lostLeft } else s) ∧
    exec .clsLostright s = .next (if a = 0b0000001 then { s with steer := .lostRight } else s) ∧
    exec .clsHold s = .next s

/-- 41_steering.md R130: when no line is at the active level, SENSE keeps the state it finds. -/
def Obligations.EmptyReadingHoldsTheState : Prop :=
  ∀ s : State, (∀ i, i < 7 → s.sensRaw.getLsbD i ≠ s.pol) → exec .sense s = .next { s with seq := .wrdirL }

/-- 41_steering.md R133 (the spec's own derivation from 30_encoding.md R72): the classification sees the activity
vector alone, so inverting the polarity and every line changes no steering state. -/
def Obligations.InvertingPolarityAndLinesChangesNoState : Prop :=
  ∀ s t u : State, exec .sense s = .next t →
    exec .sense ((s.setPol (!s.pol)).setSensRaw (~~~s.sensRaw)) = .next u → u.steer = t.steer ∧ u.seq = t.seq

/-- 41_steering.md R121, with R134 (the spec's own derivation): what SENSE writes to STATE depends on STATE, POL and
the reading alone, and on STATE only when no sensor is active. -/
def Obligations.SenseHasNoOtherMemory : Prop :=
  ∀ s s' t t' : State, exec .sense s = .next t → exec .sense s' = .next t' → s.pol = s'.pol → s.sensRaw = s'.sensRaw →
    (s.steer = s'.steer ∨ ∃ i, i < 7 ∧ s.sensRaw.getLsbD i = s.pol) → t.steer = t'.steer

/-- The command rows (30_encoding.md R76): each is selected by its state and carries that state's row of CMD_TABLE.
That a row taken by itself writes its four fields at once is the model's choice (log 5). -/
def Obligations.CommandRowsIssueTheirCommand : Prop :=
  ∀ (s : State) (q : Steering), exec q.cmdRow s = .next
    (if s.steer = q then
      { s with
        left := { s.left with
          dsel := selectorOf (commandOf s.cfg.cmdTable q).left.dir
          duty := (commandOf s.cfg.cmdTable q).left.duty }
        right := { s.right with
          dsel := selectorOf (commandOf s.cfg.cmdTable q).right.dir
          duty := (commandOf s.cfg.cmdTable q).right.duty } }
     else s)

/-- 41_steering.md R136 to R142 and R135: the reference table, as packed commands (30_encoding.md R79). -/
def Obligations.ReferenceTableIsTheSpecs : Prop :=
  [Steering.centered, .softLeft, .softRight, .hardLeft, .hardRight, .lostLeft, .lostRight].map
      (fun q => ((commandOf CmdTable.reference q).left, (commandOf CmdTable.reference q).right)) =
    [(⟨.forward, 7⟩, ⟨.forward, 7⟩), (⟨.backward, 3⟩, ⟨.forward, 7⟩), (⟨.forward, 7⟩, ⟨.backward, 3⟩),
     (⟨.backward, 7⟩, ⟨.forward, 7⟩), (⟨.forward, 7⟩, ⟨.backward, 7⟩), (⟨.backward, 7⟩, ⟨.forward, 4⟩),
     (⟨.forward, 4⟩, ⟨.backward, 7⟩)] ∧
  [Steering.centered, .softLeft, .softRight, .hardLeft, .hardRight, .lostLeft, .lostRight].map
      (fun q => ((commandOf CmdTable.reference q).left.pack, (commandOf CmdTable.reference q).right.pack)) =
    [(0x007, 0x007), (0x103, 0x007), (0x007, 0x103), (0x107, 0x007), (0x007, 0x107), (0x107, 0x004), (0x004, 0x107)]

/-! ### The motor driver -/

/-- 42_motor_driver.md R151, R153: WRDIR.L and WRDIR.R, the pins they drive and their frames. -/
def Obligations.WrdirWritesOneDirection : Prop :=
  ∀ s : State,
    exec .wrdirL s = .next
      { s with
        left := { s.left with
          dsel := if (commandOf s.cfg.cmdTable s.steer).left.dir = .forward then .forward else .backward }
        seq := .wrdutyL } ∧
    exec .wrdirR s = .next
      { s with
        right := { s.right with
          dsel := if (commandOf s.cfg.cmdTable s.steer).right.dir = .forward then .forward else .backward }
        seq := .wrdutyR } ∧
    (∀ t, exec .wrdirL s = .next t →
      t.outPin .dselL = if (commandOf s.cfg.cmdTable s.steer).left.dir = .forward then 0b10 else 0b01) ∧
    ∀ t, exec .wrdirR s = .next t →
      t.outPin .dselR = if (commandOf s.cfg.cmdTable s.steer).right.dir = .forward then 0b10 else 0b01

/-- 42_motor_driver.md R152, R154: WRDUTY.L and WRDUTY.R and their frames: no counter and no enable pair moves. -/
def Obligations.WrdutyWritesOneDuty : Prop :=
  ∀ s : State,
    exec .wrdutyL s = .next
      { s with left := { s.left with duty := (commandOf s.cfg.cmdTable s.steer).left.duty }, seq := .wrdirR } ∧
    exec .wrdutyR s = .next
      { s with right := { s.right with duty := (commandOf s.cfg.cmdTable s.steer).right.duty }, seq := .sense }

/-- 42_motor_driver.md R150, R155: the four writes in their order leave what the command row of STATE says, and SEQ at
SENSE. The right-hand side is the row taken by itself (log 5). -/
def Obligations.FourWritesEqualTheCommandRow : Prop :=
  ∀ s : State, ∃ u, exec s.steer.cmdRow s = .next u ∧
    execAll [.wrdirL, .wrdutyL, .wrdirR, .wrdutyR] s = .next (u.setSeq .sense)

/-- 42_motor_driver.md R155 (the spec's own derivation), over any schedule: after a whole loop iteration with no RESET
in it, whatever ticks and input changes fell inside, SEQ is at SENSE and the registers show the command of the state
SENSE wrote. -/
def Obligations.WholeIterationShowsTheCommand : Prop :=
  ∀ (s t : State) (tr : List (State × Label)), CoreTrace s tr t → s.seq = .sense → .reset ∉ labels tr →
    (labels tr).count .main = 5 → t.seq = .sense ∧ DriverShows t (some t.steer)

/-- 42_motor_driver.md R155, R156 (the spec's own derivations): what the motor driver's registers hold at each point
of the loop, kept by every step from every state. -/
def Obligations.DriverInvariantIsKept : Prop :=
  ∀ s t : State, DriverInv s → step s = .next t → DriverInv t

/-- 20_memory.md R64: with CMD_ATOMIC every tick that is dispatched sees, on each side, a direction and a duty of one
command, or, before the first command, those of reset (the spec's own decision, 92_eei_decisions.md D11). -/
def Obligations.AtomicCommandIsNeverTorn : Prop :=
  ∀ s : State, DriverInv s → s.cfg.cmdAtomic = true → dispatchEnabled s = true → ∀ x, ∃ q, SideShows s x q

/-- 70_reset_and_hazards.md R240: without CMD_ATOMIC a tick may see a new direction with an old duty: such a state
meets the invariants, and its next step is the DISPATCH. -/
def Obligations.ReferenceDesignCanTear : Prop :=
  ∃ s : State, RegistersInv s ∧ DriverInv s ∧ s.cfg = Config.reference ∧ s.moves = [] ∧ step s = exec .dispatch s ∧
    ¬∃ q, SideShows s .left q

/-- 42_motor_driver.md R159, with R158 (the spec's own derivation): what the environment reads from one side's pins,
and the direction last commanded, read back from the pins; what a side's latches show always has a reading. That a
reserved pair on the pins is refused, and that `drive` refuses one whatever the other pair says (DSEL 0b11 beside EN
0b00 too, where R159 read literally says coast), is the model's choice (log 10, after 93_implementation_defined.md U11).
-/
def Obligations.PinsSayDriveAndDirection : Prop :=
  (∀ r : SideRegs,
    (r.en.code = 0b11 → r.dsel.code = 0b10 → drive r.en.code r.dsel.code = .ok .driveForward) ∧
    (r.en.code = 0b11 → r.dsel.code = 0b01 → drive r.en.code r.dsel.code = .ok .driveBackward) ∧
    (r.en.code = 0b00 → drive r.en.code r.dsel.code = .ok .coast) ∧ (∃ d, drive r.en.code r.dsel.code = .ok d) ∧
    (∀ d, lastDirection r.dsel = some d ↔ r.dsel.code = pat d) ∧ (lastDirection r.dsel = none ↔ r.dsel.code = 0b00) ∧
    Enable.ofCode r.en.code = .ok r.en ∧ DirSel.ofCode r.dsel.code = .ok r.dsel) ∧
  ∀ e d : Pair, ((∃ v, Enable.ofCode e = .ok v) ↔ e = 0b00 ∨ e = 0b11) ∧ ((∃ v, DirSel.ofCode d = .ok v) ↔ d ≠ 0b11) ∧
    (e = 0b01 ∨ e = 0b10 ∨ d = 0b11 → ∃ err, drive e d = .error err)

/-! ### The PWM generator -/

/-- 40_pwm.md R101, R102: PWMTICK.L and PWMTICK.R, the pins they drive and their frames. -/
def Obligations.PwmTickComparesThenCounts : Prop :=
  ∀ s : State,
    exec .pwmtickL s = .next
      { s with left := { s.left with
          en := if s.left.cnt.toNat ≤ s.left.duty.toNat then .energized else .coast
          cnt := if s.cfg.period ≤ s.left.cnt.toNat + 1 then 0 else s.left.cnt + 1 } } ∧
    exec .pwmtickR s = .next
      { s with right := { s.right with
          en := if s.right.cnt.toNat ≤ s.right.duty.toNat then .energized else .coast
          cnt := if s.cfg.period ≤ s.right.cnt.toNat + 1 then 0 else s.right.cnt + 1 } } ∧
    (∀ t, exec .pwmtickL s = .next t → t.outPin .enL = if s.left.cnt.toNat ≤ s.left.duty.toNat then 0b11 else 0b00) ∧
    ∀ t, exec .pwmtickR s = .next t → t.outPin .enR = if s.right.cnt.toNat ≤ s.right.duty.toNat then 0b11 else 0b00

/-- 40_pwm.md R103 (the spec's own derivation from R101): after n ticks the counter is (c0 + n) mod PERIOD. -/
def Obligations.CounterWrapsMonotonically : Prop :=
  ∀ (p n : Nat) (r : SideRegs), p ≤ 255 → r.cnt.toNat < p → (ticked p n r).cnt.toNat = (r.cnt.toNat + n) % p

/-- 40_pwm.md R106 (the spec's own derivation from R101, R103): over one full counter cycle, from any starting
counter, the pair is high min(d + 1, PERIOD) times and low the other times. -/
def Obligations.DutyAccuracyOverOneCycle : Prop :=
  ∀ (p : Nat) (r : SideRegs), p ≤ 255 → r.cnt.toNat < p →
    highTicks p p r = min (r.duty.toNat + 1) p ∧ lowTicks p p r = p - min (r.duty.toNat + 1) p

/-- 40_pwm.md R107 (the spec's own derivation from R101): every tick drives the pair high exactly when the duty is at
or above PERIOD - 1. -/
def Obligations.AlwaysOnExactlyFromPeriodMinusOne : Prop :=
  ∀ (p : Nat) (r : SideRegs), p ≤ 255 → r.cnt.toNat < p →
    ((∀ n, ((ticked p n r).pwmTick p).en = .energized) ↔ p - 1 ≤ r.duty.toNat)

/-- 40_pwm.md R111 (the spec's own derivation): the counters' difference is that of the reset values for ever. -/
def Obligations.PhaseSkewIsKept : Prop :=
  ∀ s t : State, RegistersInv s → SkewInv s → step s = .next t → SkewInv t

/-- 40_pwm.md R104: the level a tick drives, and the counter it leaves, are a function of that side's counter and duty
and of PERIOD, whatever the rest of the two states. -/
def Obligations.EnableDependsOnCounterAndDutyOnly : Prop :=
  ∀ (s s' t t' : State) (x : Side), exec .dispatch s = .next t → exec .dispatch s' = .next t' →
    s.cfg.period = s'.cfg.period → (s.side x).cnt = (s'.side x).cnt → (s.side x).duty = (s'.side x).duty →
    (t.side x).en = (t'.side x).en ∧ (t.side x).cnt = (t'.side x).cnt

/-! ### The tick interrupt -/

/-- 60_exceptions.md R208: DISPATCH, both sides in one step, and its frame: nothing is saved and nothing restored. -/
def Obligations.DispatchTicksBothSidesAndClears : Prop :=
  ∀ s : State, (∀ t, exec .dispatch s = .next t →
      t.outPin .enL = (if s.left.cnt.toNat ≤ s.left.duty.toNat then 0b11 else 0b00) ∧
      t.outPin .enR = (if s.right.cnt.toNat ≤ s.right.duty.toNat then 0b11 else 0b00)) ∧
    exec .dispatch s = .next
    { s with
      left := { s.left with
        en := if s.left.cnt.toNat ≤ s.left.duty.toNat then .energized else .coast
        cnt := if s.cfg.period ≤ s.left.cnt.toNat + 1 then 0 else s.left.cnt + 1 }
      right := { s.right with
        en := if s.right.cnt.toNat ≤ s.right.duty.toNat then .energized else .coast
        cnt := if s.cfg.period ≤ s.right.cnt.toNat + 1 then 0 else s.right.cnt + 1 }
      tickPend := false }

/-- 60_exceptions.md R206: TICKREQ latches when enabled, merges with a request that waits (R207), and is dropped when
not enabled. -/
def Obligations.TickRequestLatchesOrIsDropped : Prop :=
  ∀ s : State, exec .tickreq s = .next (if s.tickEn = true then { s with tickPend := true } else s)

/-- 60_exceptions.md R212 (the equivalence is the spec's own derivation): letting MAIN run one more micro-operation
before a tick is the same as the request coming one MAIN step later; BOOT is left out, where CFGRD is what enables the
request. -/
def Obligations.TickRequestCommutesWithMain : Prop :=
  ∀ s u v w : State, s.seq ≠ .cfgrd → exec .tickreq s = .next u → exec s.seq.instr u = .next v →
    exec s.seq.instr s = .next w → exec .tickreq w = .next v

/-- 10_state.md R37: no micro-operation of MAIN writes a counter, an enable pair or TICK_PEND, an input pin, a
parameter or the environment's moves. -/
def Obligations.MainNeverWritesTheInterruptsState : Prop :=
  ∀ (q : SeqStep) (s t : State), exec q.instr s = .next t →
    (∀ x, (t.side x).cnt = (s.side x).cnt ∧ (t.side x).en = (s.side x).en) ∧ t.tickPend = s.tickPend ∧
      t.sensRaw = s.sensRaw ∧ t.cfgPol = s.cfgPol ∧ t.cfgHalt = s.cfgHalt ∧ t.cfg = s.cfg ∧ t.moves = s.moves

/-- 70_reset_and_hazards.md R242: under NO_OVERRUN, in a run of any length in the RUN phase, no request is lost, and
the counters have advanced by the number of DISPATCH steps. -/
def Obligations.NoTickIsLostWithoutOverrun : Prop :=
  ∀ (s t : State) (tr : List (State × Label)), CoreTrace s tr t → RegistersInv s → s.phase = .run →
    .reset ∉ labels tr → NoOverrun tr →
    (labels tr).count .tickreq + pendingCount s = (labels tr).count .dispatch + pendingCount t ∧
    ∀ x, (t.side x).cnt.toNat = ((s.side x).cnt.toNat + (labels tr).count .dispatch) % s.cfg.period

/-- 70_reset_and_hazards.md R245 (the spec's own derivation): the enable pins change only at DISPATCH or RESET, the
selector pins only at their WRDIR or RESET, and the duties only at their WRDUTY or RESET. -/
def Obligations.OutputsChangeOnlyAtTheirSteps : Prop :=
  ∀ (l : Label) (s t : State), CoreStep l s t →
    (t.outPin .enL ≠ s.outPin .enL ∨ t.outPin .enR ≠ s.outPin .enR → l = .dispatch ∨ l = .reset) ∧
    (t.outPin .dselL ≠ s.outPin .dselL → l = .reset ∨ l = .main ∧ s.seq = .wrdirL) ∧
    (t.outPin .dselR ≠ s.outPin .dselR → l = .reset ∨ l = .main ∧ s.seq = .wrdirR) ∧
    (t.left.duty ≠ s.left.duty → l = .reset ∨ l = .main ∧ s.seq = .wrdutyL) ∧
    (t.right.duty ≠ s.right.duty → l = .reset ∨ l = .main ∧ s.seq = .wrdutyR)

/-! ### Reset and the invariants -/

/-- 70_reset_and_hazards.md R230: RESET, and the word RST, write all thirteen registers; the values are the spec's own
decisions (92_eei_decisions.md D11, D12, D13). That RESET leaves the input levels alone is the model's choice (log 2),
and so is that it leaves the waiting moves alone (log 1); the parameters are constants (10_state.md R21). -/
def Obligations.ResetWritesEveryRegister : Prop :=
  ∀ (s : State) (i : Instr), i = .reset ∨ i = .rst → exec i s = .next
    { left := { cnt := s.cfg.cntInitL, duty := 0, dsel := .none, en := .coast }
      right := { cnt := s.cfg.cntInitR, duty := 0, dsel := .none, en := .coast }
      steer := s.cfg.steerInit, pol := false, seq := .cfgrd, tickEn := false, tickPend := false
      sensRaw := s.sensRaw, cfgPol := s.cfgPol, cfgHalt := s.cfgHalt, cfg := s.cfg, moves := s.moves } ∧
    ∀ t g, exec i s = .next t → t.outPin g = 0b00

/-- 10_state.md R38: the registers after reset, for every choice of the parameters; the values are the spec's own
decisions (92_eei_decisions.md D11, D12, D13). -/
def Obligations.PowerUpHasTheResetValues : Prop :=
  ∀ c : Config, (State.powerUp c).left = { cnt := c.cntInitL, duty := 0, dsel := .none, en := .coast } ∧
    (State.powerUp c).right = { cnt := c.cntInitR, duty := 0, dsel := .none, en := .coast } ∧
    (State.powerUp c).steer = c.steerInit ∧ (State.powerUp c).pol = false ∧ (State.powerUp c).seq = .cfgrd ∧
    (State.powerUp c).tickEn = false ∧ (State.powerUp c).tickPend = false ∧
    ∀ g, (State.powerUp c).outPin g = 0b00

/-- 10_state.md R39 items 1, 2, 3, 6, 7 (the spec's own derivation; items 6 and 7 rest on its decision D16): every
step keeps them. -/
def Obligations.RegisterInvariantIsKept : Prop :=
  ∀ s t : State, RegistersInv s → step s = .next t → RegistersInv t

/-- 10_state.md R39 item 8 (the spec's own derivation), with BOOT: outside the RUN phase nothing has moved since reset
but POL and SEQ. The reset values and that no tick is dispatched in BOOT and HALT are the spec's own decisions
(92_eei_decisions.md D11, D16; 93_implementation_defined.md U10). -/
def Obligations.QuietOutsideRunIsKept : Prop :=
  ∀ s t : State, QuietOutsideRun s → step s = .next t → QuietOutsideRun t

/-- 10_state.md R39 item 9 (the spec's own derivation): with the reference table the duties are 0, 3, 4 or 7. -/
def Obligations.ReferenceDutiesAreKept : Prop :=
  ∀ s t : State, ReferenceDuties s → step s = .next t → ReferenceDuties t

/-- The invariants hold after reset, for every choice of parameters in range, and so of `State.reset`, whose
parameters are the model's choice of the defaults (log 3). The reset values are the spec's own decisions
(92_eei_decisions.md D11, D12, D13), and that the tick is disabled there is D16. -/
def Obligations.InvariantsHoldAtReset : Prop :=
  (∀ c : Config, c.WellFormed →
    RegistersInv (State.powerUp c) ∧ QuietOutsideRun (State.powerUp c) ∧ DriverInv (State.powerUp c) ∧
      SkewInv (State.powerUp c)) ∧
  State.reset = State.powerUp Config.reference ∧ Config.reference.WellFormed ∧ ReferenceDuties State.reset

/-- 10_state.md R21: no step writes a parameter. -/
def Obligations.NoStepWritesAParameter : Prop := ∀ s t : State, step s = .next t → t.cfg = s.cfg

/-! ### Traces and fairness -/

/-- 30_encoding.md R81: STEP and TICK are their operation and then DISPATCH where it is enabled; SENS and CFG drive
their pins and nothing else. -/
def Obligations.StimulusWordsDoWhatTheySay : Prop :=
  ∀ s : State,
    (∃ u v, exec s.seq.instr s = .next u ∧ exec .step s = .next v ∧ (dispatchEnabled u = true → exec .dispatch u = .next v) ∧
      (dispatchEnabled u = false → v = u)) ∧
    (∃ u v, exec .tickreq s = .next u ∧ exec .tick s = .next v ∧ (dispatchEnabled u = true → exec .dispatch u = .next v) ∧
      (dispatchEnabled u = false → v = u)) ∧
    (∀ v, exec (.sens v) s = .next { s with sensRaw := v }) ∧
    ∀ h p, exec (.cfg h p) s = .next { s with cfgHalt := h, cfgPol := p }

/-- 30_encoding.md R82: LOOP at SENSE is one whole iteration back to SENSE, with the command in place. -/
def Obligations.LoopTraceRunsOneIteration : Prop :=
  ∀ s : State, s.seq = .sense → s.tickPend = false →
    ∃ ws t, expand s .loop = some ws ∧ Sys2Proof.core.run ws.length (s.withTrace ws) = .next t ∧ t.moves = [] ∧
      t.seq = .sense ∧ t.steer = classify s.steer (activityOf s) ∧ DriverShows t (some t.steer)

/-- 30_encoding.md R82 with 43_sequencer.md R171: BOOT h p resets, drives the pins and runs CFGRD, from any state. The
reset values and the enabling of the tick by CFGRD are the spec's own decisions (92_eei_decisions.md D11, D12, D13,
D16); that the words after RST still wait is the model's choice (log 1). -/
def Obligations.BootTraceReadsTheConfiguration : Prop :=
  ∀ (s : State) (h p : Bool),
    ∃ ws t, expand s (.boot h p) = some ws ∧ Sys2Proof.core.run ws.length (s.withTrace ws) = .next t ∧ t.moves = [] ∧
      t.pol = p ∧ t.seq = (if h = true then .idle else .sense) ∧ t.tickEn = !h ∧ t.tickPend = false ∧
      t.left = SideRegs.reset s.cfg.cntInitL ∧ t.right = SideRegs.reset s.cfg.cntInitR ∧ t.steer = s.cfg.steerInit

/-- 30_encoding.md R82 with 40_pwm.md R103: in the RUN phase, not held and with no tick waiting, TICKS n ticks each
side n times and changes nothing else. -/
def Obligations.TicksTraceTicksEachSideNTimes : Prop :=
  ∀ (s : State) (n : Nat), s.tickEn = true → s.tickPend = false → held s = false →
    ∃ ws, expand s (.ticks n) = some ws ∧ Sys2Proof.core.run n (s.withTrace ws) = .next
      { s with left := ticked s.cfg.period n s.left, right := ticked s.cfg.period n s.right, moves := [] }

/-- 60_exceptions.md R215 with 42_motor_driver.md R155: in a weakly fair infinite run in the RUN phase with no RESET,
again and again SEQ is at SENSE with the command of STATE in the registers. -/
def Obligations.FairRunKeepsIssuingCommands : Prop :=
  ∀ (run : Nat → State) (lab : Nat → Label), InfiniteRun run lab → WeaklyFair lab → (run 0).phase = .run →
    (∀ n, lab n ≠ .reset) → ∀ n, ∃ m, n ≤ m ∧ (run m).seq = .sense ∧ DriverShows (run m) (some (run m).steer)
end

