-- ==== Sys2Proof/Laws/State.lean ====
section
/-! SUPPORT. One lemma per field per update, true by rfl: no later proof unfolds a record update. -/

namespace Sys2Proof.Machine

variable (s : State)

@[simp] theorem State.setSteer_left (v : Steering) : (s.setSteer v).left = s.left := rfl
@[simp] theorem State.setSteer_right (v : Steering) : (s.setSteer v).right = s.right := rfl
@[simp] theorem State.setSteer_steer (v : Steering) : (s.setSteer v).steer = v := rfl
@[simp] theorem State.setSteer_pol (v : Steering) : (s.setSteer v).pol = s.pol := rfl
@[simp] theorem State.setSteer_seq (v : Steering) : (s.setSteer v).seq = s.seq := rfl
@[simp] theorem State.setSteer_tickEn (v : Steering) : (s.setSteer v).tickEn = s.tickEn := rfl
@[simp] theorem State.setSteer_tickPend (v : Steering) : (s.setSteer v).tickPend = s.tickPend := rfl
@[simp] theorem State.setSteer_sensRaw (v : Steering) : (s.setSteer v).sensRaw = s.sensRaw := rfl
@[simp] theorem State.setSteer_cfgPol (v : Steering) : (s.setSteer v).cfgPol = s.cfgPol := rfl
@[simp] theorem State.setSteer_cfgHalt (v : Steering) : (s.setSteer v).cfgHalt = s.cfgHalt := rfl
@[simp] theorem State.setSteer_cfg (v : Steering) : (s.setSteer v).cfg = s.cfg := rfl
@[simp] theorem State.setSteer_moves (v : Steering) : (s.setSteer v).moves = s.moves := rfl

@[simp] theorem State.setPol_left (v : Bool) : (s.setPol v).left = s.left := rfl
@[simp] theorem State.setPol_right (v : Bool) : (s.setPol v).right = s.right := rfl
@[simp] theorem State.setPol_steer (v : Bool) : (s.setPol v).steer = s.steer := rfl
@[simp] theorem State.setPol_pol (v : Bool) : (s.setPol v).pol = v := rfl
@[simp] theorem State.setPol_seq (v : Bool) : (s.setPol v).seq = s.seq := rfl
@[simp] theorem State.setPol_tickEn (v : Bool) : (s.setPol v).tickEn = s.tickEn := rfl
@[simp] theorem State.setPol_tickPend (v : Bool) : (s.setPol v).tickPend = s.tickPend := rfl
@[simp] theorem State.setPol_sensRaw (v : Bool) : (s.setPol v).sensRaw = s.sensRaw := rfl
@[simp] theorem State.setPol_cfgPol (v : Bool) : (s.setPol v).cfgPol = s.cfgPol := rfl
@[simp] theorem State.setPol_cfgHalt (v : Bool) : (s.setPol v).cfgHalt = s.cfgHalt := rfl
@[simp] theorem State.setPol_cfg (v : Bool) : (s.setPol v).cfg = s.cfg := rfl
@[simp] theorem State.setPol_moves (v : Bool) : (s.setPol v).moves = s.moves := rfl

@[simp] theorem State.setSeq_left (v : SeqStep) : (s.setSeq v).left = s.left := rfl
@[simp] theorem State.setSeq_right (v : SeqStep) : (s.setSeq v).right = s.right := rfl
@[simp] theorem State.setSeq_steer (v : SeqStep) : (s.setSeq v).steer = s.steer := rfl
@[simp] theorem State.setSeq_pol (v : SeqStep) : (s.setSeq v).pol = s.pol := rfl
@[simp] theorem State.setSeq_seq (v : SeqStep) : (s.setSeq v).seq = v := rfl
@[simp] theorem State.setSeq_tickEn (v : SeqStep) : (s.setSeq v).tickEn = s.tickEn := rfl
@[simp] theorem State.setSeq_tickPend (v : SeqStep) : (s.setSeq v).tickPend = s.tickPend := rfl
@[simp] theorem State.setSeq_sensRaw (v : SeqStep) : (s.setSeq v).sensRaw = s.sensRaw := rfl
@[simp] theorem State.setSeq_cfgPol (v : SeqStep) : (s.setSeq v).cfgPol = s.cfgPol := rfl
@[simp] theorem State.setSeq_cfgHalt (v : SeqStep) : (s.setSeq v).cfgHalt = s.cfgHalt := rfl
@[simp] theorem State.setSeq_cfg (v : SeqStep) : (s.setSeq v).cfg = s.cfg := rfl
@[simp] theorem State.setSeq_moves (v : SeqStep) : (s.setSeq v).moves = s.moves := rfl

@[simp] theorem State.setTickEn_left (v : Bool) : (s.setTickEn v).left = s.left := rfl
@[simp] theorem State.setTickEn_right (v : Bool) : (s.setTickEn v).right = s.right := rfl
@[simp] theorem State.setTickEn_steer (v : Bool) : (s.setTickEn v).steer = s.steer := rfl
@[simp] theorem State.setTickEn_pol (v : Bool) : (s.setTickEn v).pol = s.pol := rfl
@[simp] theorem State.setTickEn_seq (v : Bool) : (s.setTickEn v).seq = s.seq := rfl
@[simp] theorem State.setTickEn_tickEn (v : Bool) : (s.setTickEn v).tickEn = v := rfl
@[simp] theorem State.setTickEn_tickPend (v : Bool) : (s.setTickEn v).tickPend = s.tickPend := rfl
@[simp] theorem State.setTickEn_sensRaw (v : Bool) : (s.setTickEn v).sensRaw = s.sensRaw := rfl
@[simp] theorem State.setTickEn_cfgPol (v : Bool) : (s.setTickEn v).cfgPol = s.cfgPol := rfl
@[simp] theorem State.setTickEn_cfgHalt (v : Bool) : (s.setTickEn v).cfgHalt = s.cfgHalt := rfl
@[simp] theorem State.setTickEn_cfg (v : Bool) : (s.setTickEn v).cfg = s.cfg := rfl
@[simp] theorem State.setTickEn_moves (v : Bool) : (s.setTickEn v).moves = s.moves := rfl

@[simp] theorem State.setTickPend_left (v : Bool) : (s.setTickPend v).left = s.left := rfl
@[simp] theorem State.setTickPend_right (v : Bool) : (s.setTickPend v).right = s.right := rfl
@[simp] theorem State.setTickPend_steer (v : Bool) : (s.setTickPend v).steer = s.steer := rfl
@[simp] theorem State.setTickPend_pol (v : Bool) : (s.setTickPend v).pol = s.pol := rfl
@[simp] theorem State.setTickPend_seq (v : Bool) : (s.setTickPend v).seq = s.seq := rfl
@[simp] theorem State.setTickPend_tickEn (v : Bool) : (s.setTickPend v).tickEn = s.tickEn := rfl
@[simp] theorem State.setTickPend_tickPend (v : Bool) : (s.setTickPend v).tickPend = v := rfl
@[simp] theorem State.setTickPend_sensRaw (v : Bool) : (s.setTickPend v).sensRaw = s.sensRaw := rfl
@[simp] theorem State.setTickPend_cfgPol (v : Bool) : (s.setTickPend v).cfgPol = s.cfgPol := rfl
@[simp] theorem State.setTickPend_cfgHalt (v : Bool) : (s.setTickPend v).cfgHalt = s.cfgHalt := rfl
@[simp] theorem State.setTickPend_cfg (v : Bool) : (s.setTickPend v).cfg = s.cfg := rfl
@[simp] theorem State.setTickPend_moves (v : Bool) : (s.setTickPend v).moves = s.moves := rfl

@[simp] theorem State.setSensRaw_left (v : Sens7) : (s.setSensRaw v).left = s.left := rfl
@[simp] theorem State.setSensRaw_right (v : Sens7) : (s.setSensRaw v).right = s.right := rfl
@[simp] theorem State.setSensRaw_steer (v : Sens7) : (s.setSensRaw v).steer = s.steer := rfl
@[simp] theorem State.setSensRaw_pol (v : Sens7) : (s.setSensRaw v).pol = s.pol := rfl
@[simp] theorem State.setSensRaw_seq (v : Sens7) : (s.setSensRaw v).seq = s.seq := rfl
@[simp] theorem State.setSensRaw_tickEn (v : Sens7) : (s.setSensRaw v).tickEn = s.tickEn := rfl
@[simp] theorem State.setSensRaw_tickPend (v : Sens7) : (s.setSensRaw v).tickPend = s.tickPend := rfl
@[simp] theorem State.setSensRaw_sensRaw (v : Sens7) : (s.setSensRaw v).sensRaw = v := rfl
@[simp] theorem State.setSensRaw_cfgPol (v : Sens7) : (s.setSensRaw v).cfgPol = s.cfgPol := rfl
@[simp] theorem State.setSensRaw_cfgHalt (v : Sens7) : (s.setSensRaw v).cfgHalt = s.cfgHalt := rfl
@[simp] theorem State.setSensRaw_cfg (v : Sens7) : (s.setSensRaw v).cfg = s.cfg := rfl
@[simp] theorem State.setSensRaw_moves (v : Sens7) : (s.setSensRaw v).moves = s.moves := rfl

@[simp] theorem State.setCfgPins_left (h p : Bool) : (s.setCfgPins h p).left = s.left := rfl
@[simp] theorem State.setCfgPins_right (h p : Bool) : (s.setCfgPins h p).right = s.right := rfl
@[simp] theorem State.setCfgPins_steer (h p : Bool) : (s.setCfgPins h p).steer = s.steer := rfl
@[simp] theorem State.setCfgPins_pol (h p : Bool) : (s.setCfgPins h p).pol = s.pol := rfl
@[simp] theorem State.setCfgPins_seq (h p : Bool) : (s.setCfgPins h p).seq = s.seq := rfl
@[simp] theorem State.setCfgPins_tickEn (h p : Bool) : (s.setCfgPins h p).tickEn = s.tickEn := rfl
@[simp] theorem State.setCfgPins_tickPend (h p : Bool) : (s.setCfgPins h p).tickPend = s.tickPend := rfl
@[simp] theorem State.setCfgPins_sensRaw (h p : Bool) : (s.setCfgPins h p).sensRaw = s.sensRaw := rfl
@[simp] theorem State.setCfgPins_cfgPol (h p : Bool) : (s.setCfgPins h p).cfgPol = p := rfl
@[simp] theorem State.setCfgPins_cfgHalt (h p : Bool) : (s.setCfgPins h p).cfgHalt = h := rfl
@[simp] theorem State.setCfgPins_cfg (h p : Bool) : (s.setCfgPins h p).cfg = s.cfg := rfl
@[simp] theorem State.setCfgPins_moves (h p : Bool) : (s.setCfgPins h p).moves = s.moves := rfl

@[simp] theorem State.setMoves_left (v : List Move) : (s.setMoves v).left = s.left := rfl
@[simp] theorem State.setMoves_right (v : List Move) : (s.setMoves v).right = s.right := rfl
@[simp] theorem State.setMoves_steer (v : List Move) : (s.setMoves v).steer = s.steer := rfl
@[simp] theorem State.setMoves_pol (v : List Move) : (s.setMoves v).pol = s.pol := rfl
@[simp] theorem State.setMoves_seq (v : List Move) : (s.setMoves v).seq = s.seq := rfl
@[simp] theorem State.setMoves_tickEn (v : List Move) : (s.setMoves v).tickEn = s.tickEn := rfl
@[simp] theorem State.setMoves_tickPend (v : List Move) : (s.setMoves v).tickPend = s.tickPend := rfl
@[simp] theorem State.setMoves_sensRaw (v : List Move) : (s.setMoves v).sensRaw = s.sensRaw := rfl
@[simp] theorem State.setMoves_cfgPol (v : List Move) : (s.setMoves v).cfgPol = s.cfgPol := rfl
@[simp] theorem State.setMoves_cfgHalt (v : List Move) : (s.setMoves v).cfgHalt = s.cfgHalt := rfl
@[simp] theorem State.setMoves_cfg (v : List Move) : (s.setMoves v).cfg = s.cfg := rfl
@[simp] theorem State.setMoves_moves (v : List Move) : (s.setMoves v).moves = v := rfl

@[simp] theorem State.setSideLeft_left (r : SideRegs) : (s.setSide .left r).left = r := rfl
@[simp] theorem State.setSideLeft_right (r : SideRegs) : (s.setSide .left r).right = s.right := rfl
@[simp] theorem State.setSideLeft_steer (r : SideRegs) : (s.setSide .left r).steer = s.steer := rfl
@[simp] theorem State.setSideLeft_pol (r : SideRegs) : (s.setSide .left r).pol = s.pol := rfl
@[simp] theorem State.setSideLeft_seq (r : SideRegs) : (s.setSide .left r).seq = s.seq := rfl
@[simp] theorem State.setSideLeft_tickEn (r : SideRegs) : (s.setSide .left r).tickEn = s.tickEn := rfl
@[simp] theorem State.setSideLeft_tickPend (r : SideRegs) : (s.setSide .left r).tickPend = s.tickPend := rfl
@[simp] theorem State.setSideLeft_sensRaw (r : SideRegs) : (s.setSide .left r).sensRaw = s.sensRaw := rfl
@[simp] theorem State.setSideLeft_cfgPol (r : SideRegs) : (s.setSide .left r).cfgPol = s.cfgPol := rfl
@[simp] theorem State.setSideLeft_cfgHalt (r : SideRegs) : (s.setSide .left r).cfgHalt = s.cfgHalt := rfl
@[simp] theorem State.setSideLeft_cfg (r : SideRegs) : (s.setSide .left r).cfg = s.cfg := rfl
@[simp] theorem State.setSideLeft_moves (r : SideRegs) : (s.setSide .left r).moves = s.moves := rfl

@[simp] theorem State.setSideRight_left (r : SideRegs) : (s.setSide .right r).left = s.left := rfl
@[simp] theorem State.setSideRight_right (r : SideRegs) : (s.setSide .right r).right = r := rfl
@[simp] theorem State.setSideRight_steer (r : SideRegs) : (s.setSide .right r).steer = s.steer := rfl
@[simp] theorem State.setSideRight_pol (r : SideRegs) : (s.setSide .right r).pol = s.pol := rfl
@[simp] theorem State.setSideRight_seq (r : SideRegs) : (s.setSide .right r).seq = s.seq := rfl
@[simp] theorem State.setSideRight_tickEn (r : SideRegs) : (s.setSide .right r).tickEn = s.tickEn := rfl
@[simp] theorem State.setSideRight_tickPend (r : SideRegs) : (s.setSide .right r).tickPend = s.tickPend := rfl
@[simp] theorem State.setSideRight_sensRaw (r : SideRegs) : (s.setSide .right r).sensRaw = s.sensRaw := rfl
@[simp] theorem State.setSideRight_cfgPol (r : SideRegs) : (s.setSide .right r).cfgPol = s.cfgPol := rfl
@[simp] theorem State.setSideRight_cfgHalt (r : SideRegs) : (s.setSide .right r).cfgHalt = s.cfgHalt := rfl
@[simp] theorem State.setSideRight_cfg (r : SideRegs) : (s.setSide .right r).cfg = s.cfg := rfl
@[simp] theorem State.setSideRight_moves (r : SideRegs) : (s.setSide .right r).moves = s.moves := rfl

@[simp] theorem State.side_left : s.side .left = s.left := rfl
@[simp] theorem State.side_right : s.side .right = s.right := rfl

@[simp] theorem State.setSteer_side (v : Steering) (x : Side) : (s.setSteer v).side x = s.side x := by cases x <;> rfl
@[simp] theorem State.setPol_side (v : Bool) (x : Side) : (s.setPol v).side x = s.side x := by cases x <;> rfl
@[simp] theorem State.setSeq_side (v : SeqStep) (x : Side) : (s.setSeq v).side x = s.side x := by cases x <;> rfl
@[simp] theorem State.setTickEn_side (v : Bool) (x : Side) : (s.setTickEn v).side x = s.side x := by cases x <;> rfl
@[simp] theorem State.setTickPend_side (v : Bool) (x : Side) : (s.setTickPend v).side x = s.side x := by cases x <;> rfl
@[simp] theorem State.setSensRaw_side (v : Sens7) (x : Side) : (s.setSensRaw v).side x = s.side x := by cases x <;> rfl
@[simp] theorem State.setCfgPins_side (h p : Bool) (x : Side) : (s.setCfgPins h p).side x = s.side x := by cases x <;> rfl
@[simp] theorem State.setMoves_side (v : List Move) (x : Side) : (s.setMoves v).side x = s.side x := by cases x <;> rfl

@[simp] theorem State.setSide_steer (x : Side) (r : SideRegs) : (s.setSide x r).steer = s.steer := by cases x <;> rfl
@[simp] theorem State.setSide_pol (x : Side) (r : SideRegs) : (s.setSide x r).pol = s.pol := by cases x <;> rfl
@[simp] theorem State.setSide_seq (x : Side) (r : SideRegs) : (s.setSide x r).seq = s.seq := by cases x <;> rfl
@[simp] theorem State.setSide_tickEn (x : Side) (r : SideRegs) : (s.setSide x r).tickEn = s.tickEn := by cases x <;> rfl
@[simp] theorem State.setSide_tickPend (x : Side) (r : SideRegs) : (s.setSide x r).tickPend = s.tickPend := by cases x <;> rfl
@[simp] theorem State.setSide_sensRaw (x : Side) (r : SideRegs) : (s.setSide x r).sensRaw = s.sensRaw := by cases x <;> rfl
@[simp] theorem State.setSide_cfgPol (x : Side) (r : SideRegs) : (s.setSide x r).cfgPol = s.cfgPol := by cases x <;> rfl
@[simp] theorem State.setSide_cfgHalt (x : Side) (r : SideRegs) : (s.setSide x r).cfgHalt = s.cfgHalt := by cases x <;> rfl
@[simp] theorem State.setSide_cfg (x : Side) (r : SideRegs) : (s.setSide x r).cfg = s.cfg := by cases x <;> rfl
@[simp] theorem State.setSide_moves (x : Side) (r : SideRegs) : (s.setSide x r).moves = s.moves := by cases x <;> rfl

/-- Writing one side is read back on that side and leaves the other alone. -/
theorem State.setSide_side (x y : Side) (r : SideRegs) : (s.setSide x r).side y = if y = x then r else s.side y := by
  cases x <;> cases y <;> rfl

@[simp] theorem State.setSide_side_self (x : Side) (r : SideRegs) : (s.setSide x r).side x = r := by cases x <;> rfl

@[simp] theorem SideRegs.setDsel_cnt (r : SideRegs) (d : DirSel) : (r.setDsel d).cnt = r.cnt := rfl
@[simp] theorem SideRegs.setDsel_duty (r : SideRegs) (d : DirSel) : (r.setDsel d).duty = r.duty := rfl
@[simp] theorem SideRegs.setDsel_dsel (r : SideRegs) (d : DirSel) : (r.setDsel d).dsel = d := rfl
@[simp] theorem SideRegs.setDsel_en (r : SideRegs) (d : DirSel) : (r.setDsel d).en = r.en := rfl
@[simp] theorem SideRegs.setDuty_cnt (r : SideRegs) (d : Word8) : (r.setDuty d).cnt = r.cnt := rfl
@[simp] theorem SideRegs.setDuty_duty (r : SideRegs) (d : Word8) : (r.setDuty d).duty = d := rfl
@[simp] theorem SideRegs.setDuty_dsel (r : SideRegs) (d : Word8) : (r.setDuty d).dsel = r.dsel := rfl
@[simp] theorem SideRegs.setDuty_en (r : SideRegs) (d : Word8) : (r.setDuty d).en = r.en := rfl

/-- The last list of moves set is the one there is. -/
@[simp] theorem State.setMoves_setMoves (a b : List Move) : (s.setMoves a).setMoves b = s.setMoves b := rfl

/-- Setting the moves a state has changes nothing. -/
@[simp] theorem State.setMoves_self : s.setMoves s.moves = s := rfl

end Sys2Proof.Machine
end

