-- ==== Sys2Proof/Laws/Ops.lean ====
section
/-! SUPPORT. For each shared operation one lemma that says what it does, so that no proof unfolds it. -/

namespace Sys2Proof.Machine

/-! ### One side's tick -/

@[simp] theorem SideRegs.pwmTick_cnt (p : Nat) (r : SideRegs) : (r.pwmTick p).cnt = nextCount p r.cnt := rfl
@[simp] theorem SideRegs.pwmTick_en (p : Nat) (r : SideRegs) : (r.pwmTick p).en = enableLevel r.cnt r.duty := rfl
@[simp] theorem SideRegs.pwmTick_duty (p : Nat) (r : SideRegs) : (r.pwmTick p).duty = r.duty := rfl
@[simp] theorem SideRegs.pwmTick_dsel (p : Nat) (r : SideRegs) : (r.pwmTick p).dsel = r.dsel := rfl

/-- The enable pair is high exactly when counter <= duty (40_pwm.md R105). -/
theorem enableLevel_eq_high (c d : Word8) : enableLevel c d = .energized ↔ c.toNat ≤ d.toNat := by
  unfold enableLevel; split <;> simp_all

/-- The enable pair is low exactly when counter > duty. -/
theorem enableLevel_eq_low (c d : Word8) : enableLevel c d = .coast ↔ d.toNat < c.toNat := by
  unfold enableLevel; split <;> simp_all

/-- The pair a tick drives: both lines high or both low (40_pwm.md R101, 10_state.md R29). -/
theorem enableLevel_code (c d : Word8) : (enableLevel c d).code = if c.toNat ≤ d.toNat then 0b11 else 0b00 := by
  unfold enableLevel; split <;> rfl

/-- The pins of a drive-enable latch are both low or both high (10_state.md R29). -/
theorem Enable.code_paired (e : Enable) : e.code = 0b00 ∨ e.code = 0b11 := by cases e <;> simp [Enable.code]

/-- The pins of a direction-selector latch never show 0b11 (10_state.md R28). -/
theorem DirSel.code_legal (d : DirSel) : d.code = 0b00 ∨ d.code = 0b01 ∨ d.code = 0b10 := by cases d <;> simp [DirSel.code]

/-- A direction-selector latch is read back from its pins. -/
@[simp] theorem DirSel.ofCode_code (d : DirSel) : DirSel.ofCode d.code = .ok d := by cases d <;> rfl

/-- A drive-enable latch is read back from its pins. -/
@[simp] theorem Enable.ofCode_code (e : Enable) : Enable.ofCode e.code = .ok e := by cases e <;> rfl

/-- The counter's next value as a number, below PERIOD (40_pwm.md R101). -/
theorem nextCount_toNat {p : Nat} {c : Word8} (hp : p ≤ 255) :
    (nextCount p c).toNat = if p ≤ c.toNat + 1 then 0 else c.toNat + 1 := by
  unfold nextCount; split
  · rfl
  · simp; omega

/-- The counter stays below PERIOD (10_state.md R23). -/
theorem nextCount_lt {p : Nat} {c : Word8} (h1 : 1 ≤ p) (hp : p ≤ 255) : (nextCount p c).toNat < p := by
  rw [nextCount_toNat hp]; split <;> omega

/-- From a counter in range a tick adds one modulo PERIOD (40_pwm.md R103). -/
theorem nextCount_mod {p : Nat} {c : Word8} (hp : p ≤ 255) (hc : c.toNat < p) :
    (nextCount p c).toNat = (c.toNat + 1) % p := by
  rw [nextCount_toNat hp]; split
  · have : c.toNat + 1 = p := by omega
    simp [this]
  · rw [Nat.mod_eq_of_lt (by omega)]

/-! ### Taking the tick interrupt -/

@[simp] theorem takeTick_left (s : State) : (takeTick s).left = s.left.pwmTick s.cfg.period := rfl
@[simp] theorem takeTick_right (s : State) : (takeTick s).right = s.right.pwmTick s.cfg.period := rfl
@[simp] theorem takeTick_side (s : State) (x : Side) : (takeTick s).side x = (s.side x).pwmTick s.cfg.period := by
  cases x <;> rfl
@[simp] theorem takeTick_steer (s : State) : (takeTick s).steer = s.steer := rfl
@[simp] theorem takeTick_pol (s : State) : (takeTick s).pol = s.pol := rfl
@[simp] theorem takeTick_seq (s : State) : (takeTick s).seq = s.seq := rfl
@[simp] theorem takeTick_tickEn (s : State) : (takeTick s).tickEn = s.tickEn := rfl
@[simp] theorem takeTick_tickPend (s : State) : (takeTick s).tickPend = false := rfl
@[simp] theorem takeTick_sensRaw (s : State) : (takeTick s).sensRaw = s.sensRaw := rfl
@[simp] theorem takeTick_cfgPol (s : State) : (takeTick s).cfgPol = s.cfgPol := rfl
@[simp] theorem takeTick_cfgHalt (s : State) : (takeTick s).cfgHalt = s.cfgHalt := rfl
@[simp] theorem takeTick_cfg (s : State) : (takeTick s).cfg = s.cfg := rfl
@[simp] theorem takeTick_moves (s : State) : (takeTick s).moves = s.moves := rfl

/-! ### The tick request -/

/-- A request sets TICK_PEND when TICK_EN is 1 and does nothing when it is 0 (60_exceptions.md R206). -/
theorem requestTick_eq (s : State) : requestTick s = s.setTickPend (s.tickEn || s.tickPend) := by
  unfold requestTick; cases h : s.tickEn <;> simp [State.setTickPend]

/-! ### Reset -/

/-- RESET leaves what power-up leaves, but for the input levels and the moves (70_reset_and_hazards.md R230). -/
theorem applyReset_eq (s : State) :
    applyReset s = (((State.powerUp s.cfg).setSensRaw s.sensRaw).setCfgPins s.cfgHalt s.cfgPol).setMoves s.moves := rfl

/-! ### The writes of the motor driver -/

@[simp] theorem commandFor_setSide (s : State) (x y : Side) (r : SideRegs) : commandFor (s.setSide x r) y = commandFor s y := by
  cases x <;> rfl

/-- WRDIR.x writes the side's selector pair and leaves the rest of the side alone. -/
theorem writeDirection_side (s : State) (x y : Side) :
    (writeDirection x s).side y = if y = x then (s.side x).setDsel (selectorOf (commandFor s x).dir) else s.side y :=
  State.setSide_side s x y _

/-- WRDUTY.x writes the side's duty and leaves the rest of the side alone. -/
theorem writeDuty_side (s : State) (x y : Side) :
    (writeDuty x s).side y = if y = x then (s.side x).setDuty (commandFor s x).duty else s.side y :=
  State.setSide_side s x y _

/-- The pattern of a direction is never 0b00 nor 0b11 (30_encoding.md R78). -/
theorem pat_legal (d : Dir) : pat d = 0b01 ∨ pat d = 0b10 := by cases d <;> simp [pat]

/-- The latch of a direction shows that direction's pattern (30_encoding.md R78). -/
@[simp] theorem selectorOf_code (d : Dir) : (selectorOf d).code = pat d := by cases d <;> rfl

/-- A direction is read back from its latch (42_motor_driver.md R158). -/
@[simp] theorem lastDirection_selectorOf (d : Dir) : lastDirection (selectorOf d) = some d := by cases d <;> rfl

/-- SENSA drives the reading whose activity vector is the one asked for (30_encoding.md R82). -/
@[simp] theorem activityVector_rawOfActivity (p : Bool) (a : Sens7) : activityVector p (rawOfActivity p a) = a := by
  cases p <;> simp [activityVector, rawOfActivity]

/-! ### The classification -/

/-- With no sensor active the previous state is held (41_steering.md R130). -/
@[simp] theorem classify_zero (p : Steering) : classify p 0 = p := by simp [classify]

/-- A vector that is not zero has one of its seven bits set. -/
theorem sens7_some_bit : ∀ a : Sens7, a ≠ 0 →
    a.getLsbD 3 ∨ a.getLsbD 4 ∨ a.getLsbD 2 ∨ a.getLsbD 5 ∨ a.getLsbD 1 ∨ a.getLsbD 6 ∨ a.getLsbD 0 := by decide

/-- The previous state matters only when no sensor is active (41_steering.md R121, R130). -/
theorem classify_congr {a : Sens7} (h : a ≠ 0) (p q : Steering) : classify p a = classify q a := by
  have := sens7_some_bit a h
  unfold classify; split_ifs <;> simp_all

/-- A bit of the activity vector says whether the raw line is at the level of POL (30_encoding.md R72). -/
theorem activityVector_getLsbD (p : Bool) (raw : Sens7) {i : Nat} (hi : i < 7) :
    (activityVector p raw).getLsbD i = (raw.getLsbD i == p) := by
  cases p <;> simp [activityVector, hi]

/-! ### The micro-operations of MAIN -/

/-- CFGRD, by the level on CFG_HALT (43_sequencer.md R171). -/
theorem readConfiguration_eq (s : State) :
    readConfiguration s =
      if s.cfgHalt = true then (s.setPol s.cfgPol).setSeq .idle else ((s.setPol s.cfgPol).setTickEn true).setSeq .sense := rfl

/-- MAIN never writes a counter or an enable pair, TICK_PEND, a pin, a parameter or the moves (10_state.md R37). -/
theorem mainStep_frame (s : State) :
    (∀ x, ((mainStep s).side x).cnt = (s.side x).cnt ∧ ((mainStep s).side x).en = (s.side x).en) ∧
      (mainStep s).tickPend = s.tickPend ∧ (mainStep s).sensRaw = s.sensRaw ∧ (mainStep s).cfgPol = s.cfgPol ∧
      (mainStep s).cfgHalt = s.cfgHalt ∧ (mainStep s).cfg = s.cfg ∧ (mainStep s).moves = s.moves := by
  unfold mainStep
  cases s.seq
  case cfgrd => dsimp only; rw [readConfiguration_eq]; split <;> simp
  all_goals exact ⟨fun x => by cases x <;> exact ⟨rfl, rfl⟩, rfl, rfl, rfl, rfl, rfl, rfl⟩

/-- The parameters are the same after a MAIN step. -/
@[simp] theorem mainStep_cfg (s : State) : (mainStep s).cfg = s.cfg := (mainStep_frame s).2.2.2.2.2.1

/-- TICK_PEND is the same after a MAIN step. -/
@[simp] theorem mainStep_tickPend (s : State) : (mainStep s).tickPend = s.tickPend := (mainStep_frame s).2.1

/-- The moves are the same after a MAIN step. -/
@[simp] theorem mainStep_moves (s : State) : (mainStep s).moves = s.moves := (mainStep_frame s).2.2.2.2.2.2

/-- A MAIN step does not look at the moves. -/
theorem mainStep_setMoves (s : State) (ms : List Move) : mainStep (s.setMoves ms) = (mainStep s).setMoves ms := by
  unfold mainStep
  rw [State.setMoves_seq]
  cases s.seq
  case cfgrd => dsimp only; rw [readConfiguration_eq, readConfiguration_eq, State.setMoves_cfgHalt]; split <;> rfl
  all_goals rfl

/-- A request does not look at the moves. -/
theorem requestTick_setMoves (s : State) (ms : List Move) : requestTick (s.setMoves ms) = (requestTick s).setMoves ms := by
  rw [requestTick_eq, requestTick_eq]; rfl

/-- Whether DISPATCH is enabled does not depend on the moves. -/
@[simp] theorem dispatchEnabled_setMoves (s : State) (ms : List Move) :
    dispatchEnabled (s.setMoves ms) = dispatchEnabled s := rfl

end Sys2Proof.Machine
end

