-- ==== Sys2Proof/Laws/PerInstr.lean ====
section
/-! SUPPORT. A property of every instruction as it is written: its code fits its format (30_encoding.md R84, R85), one
lemma per constructor. -/

namespace Sys2Proof.Laws

/-- The code of an instruction has no bit above the width of its format. -/
def EncodeFitsFormat.Statement (i : Instr) : Prop := (encode i).bits.toNat < 2 ^ (encode i).sel.width

theorem EncodeFitsFormat.cfgrd : EncodeFitsFormat.Statement .cfgrd := by unfold EncodeFitsFormat.Statement; decide
theorem EncodeFitsFormat.sense : EncodeFitsFormat.Statement .sense := by unfold EncodeFitsFormat.Statement; decide
theorem EncodeFitsFormat.wrdirL : EncodeFitsFormat.Statement .wrdirL := by unfold EncodeFitsFormat.Statement; decide
theorem EncodeFitsFormat.wrdutyL : EncodeFitsFormat.Statement .wrdutyL := by unfold EncodeFitsFormat.Statement; decide
theorem EncodeFitsFormat.wrdirR : EncodeFitsFormat.Statement .wrdirR := by unfold EncodeFitsFormat.Statement; decide
theorem EncodeFitsFormat.wrdutyR : EncodeFitsFormat.Statement .wrdutyR := by unfold EncodeFitsFormat.Statement; decide
theorem EncodeFitsFormat.idle : EncodeFitsFormat.Statement .idle := by unfold EncodeFitsFormat.Statement; decide
theorem EncodeFitsFormat.pwmtickL : EncodeFitsFormat.Statement .pwmtickL := by unfold EncodeFitsFormat.Statement; decide
theorem EncodeFitsFormat.pwmtickR : EncodeFitsFormat.Statement .pwmtickR := by unfold EncodeFitsFormat.Statement; decide
theorem EncodeFitsFormat.dispatch : EncodeFitsFormat.Statement .dispatch := by unfold EncodeFitsFormat.Statement; decide
theorem EncodeFitsFormat.tickreq : EncodeFitsFormat.Statement .tickreq := by unfold EncodeFitsFormat.Statement; decide
theorem EncodeFitsFormat.reset : EncodeFitsFormat.Statement .reset := by unfold EncodeFitsFormat.Statement; decide
theorem EncodeFitsFormat.clsCentered : EncodeFitsFormat.Statement .clsCentered := by unfold EncodeFitsFormat.Statement; decide
theorem EncodeFitsFormat.clsSoftleft : EncodeFitsFormat.Statement .clsSoftleft := by unfold EncodeFitsFormat.Statement; decide
theorem EncodeFitsFormat.clsSoftright : EncodeFitsFormat.Statement .clsSoftright := by unfold EncodeFitsFormat.Statement; decide
theorem EncodeFitsFormat.clsHardleft : EncodeFitsFormat.Statement .clsHardleft := by unfold EncodeFitsFormat.Statement; decide
theorem EncodeFitsFormat.clsHardright : EncodeFitsFormat.Statement .clsHardright := by unfold EncodeFitsFormat.Statement; decide
theorem EncodeFitsFormat.clsLostleft : EncodeFitsFormat.Statement .clsLostleft := by unfold EncodeFitsFormat.Statement; decide
theorem EncodeFitsFormat.clsLostright : EncodeFitsFormat.Statement .clsLostright := by unfold EncodeFitsFormat.Statement; decide
theorem EncodeFitsFormat.clsHold : EncodeFitsFormat.Statement .clsHold := by unfold EncodeFitsFormat.Statement; decide
theorem EncodeFitsFormat.cmdCentered : EncodeFitsFormat.Statement .cmdCentered := by unfold EncodeFitsFormat.Statement; decide
theorem EncodeFitsFormat.cmdSoftleft : EncodeFitsFormat.Statement .cmdSoftleft := by unfold EncodeFitsFormat.Statement; decide
theorem EncodeFitsFormat.cmdSoftright : EncodeFitsFormat.Statement .cmdSoftright := by unfold EncodeFitsFormat.Statement; decide
theorem EncodeFitsFormat.cmdHardleft : EncodeFitsFormat.Statement .cmdHardleft := by unfold EncodeFitsFormat.Statement; decide
theorem EncodeFitsFormat.cmdHardright : EncodeFitsFormat.Statement .cmdHardright := by unfold EncodeFitsFormat.Statement; decide
theorem EncodeFitsFormat.cmdLostleft : EncodeFitsFormat.Statement .cmdLostleft := by unfold EncodeFitsFormat.Statement; decide
theorem EncodeFitsFormat.cmdLostright : EncodeFitsFormat.Statement .cmdLostright := by unfold EncodeFitsFormat.Statement; decide
theorem EncodeFitsFormat.step : EncodeFitsFormat.Statement .step := by unfold EncodeFitsFormat.Statement; decide
theorem EncodeFitsFormat.tick : EncodeFitsFormat.Statement .tick := by unfold EncodeFitsFormat.Statement; decide
theorem EncodeFitsFormat.sens (v : Sens7) : EncodeFitsFormat.Statement (.sens v) := (encode (.sens v)).bits.isLt
theorem EncodeFitsFormat.cfg (h p : Bool) : EncodeFitsFormat.Statement (.cfg h p) := (encode (.cfg h p)).bits.isLt
theorem EncodeFitsFormat.rst : EncodeFitsFormat.Statement .rst := by unfold EncodeFitsFormat.Statement; decide

end Sys2Proof.Laws
end

