-- ==== Sys2Proof/Laws/Step.lean ====
section
/-! SUPPORT. What `exec` and `step` can do, said once. -/

namespace Sys2Proof.Machine

/-- The micro-operation x[SEQ] names is what MAIN performs. -/
theorem exec_seq_instr (s : State) : exec s.seq.instr s = .next (mainStep s) := by
  cases h : s.seq <;> simp [SeqStep.instr, exec, mainStep, h] <;> rfl

/-- The core's own step: the tick interrupt when it is enabled, MAIN's micro-operation otherwise. -/
theorem exec_coreInstr (s : State) :
    exec (coreInstr s) s = .next (if dispatchEnabled s then takeTick s else mainStep s) := by
  unfold coreInstr; split
  · rfl
  · exact exec_seq_instr s

/-- Every instruction completes: there is no fault and no refusal in any meaning (60_exceptions.md R200). -/
theorem exec_next (i : Instr) (s : State) : ∃ t, exec i s = .next t := by
  cases i <;> exact ⟨_, rfl⟩

/-- A word of a trace decodes to one of the five stimuli, or is ill formed. -/
theorem decodeStim_cases (w : Stim10) :
    decodeStim w = .ok .step ∨ decodeStim w = .ok .tick ∨ (∃ v, decodeStim w = .ok (.sens v)) ∨
      (∃ h p, decodeStim w = .ok (.cfg h p)) ∨ decodeStim w = .ok .rst ∨ ∃ e, decodeStim w = .error e := by
  have hw : w.toNat < 2 ^ Selector.stim10.width := w.isLt
  simp only [decodeStim, decode, hw, if_true]
  cases h : (rowsOf .stim10).find? (·.selects ⟨.stim10, w⟩) with
  | none => exact .inr (.inr (.inr (.inr (.inr ⟨_, rfl⟩))))
  | some r =>
    have hr : r ∈ stimRows := List.mem_of_find?_eq_some h
    simp only [stimRows, List.mem_cons, List.not_mem_nil, or_false] at hr
    rcases hr with rfl | rfl | rfl | rfl | rfl
    · exact .inl rfl
    · exact .inr (.inl rfl)
    · exact .inr (.inr (.inl ⟨_, rfl⟩))
    · exact .inr (.inr (.inr (.inl ⟨_, _, rfl⟩)))
    · exact .inr (.inr (.inr (.inr (.inl rfl))))

/-- What one step can do (60_exceptions.md R213, 30_encoding.md R81): an event or a change of an input, the core's own
step, or a stimulus word; never MAIN's micro-operation while a tick is pending and not held. -/
theorem step_cases {s t : State} (h : step s = .next t) :
    ∃ rest, ∃ u, u = s.setMoves rest ∧
      (t = (if dispatchEnabled u then takeTick u else mainStep u) ∨ t = requestTick u ∨ t = applyReset u ∨
        (∃ v, t = u.setSensRaw v) ∨ (∃ hp pp, t = u.setCfgPins hp pp) ∨
        (dispatchEnabled u = false ∧ t = dispatchIfEnabled (mainStep u)) ∨ t = dispatchIfEnabled (requestTick u)) := by
  have core : ∀ rest, exec (coreInstr s) (s.setMoves rest) =
      .next (if dispatchEnabled (s.setMoves rest) then takeTick (s.setMoves rest) else mainStep (s.setMoves rest)) :=
    fun rest => exec_coreInstr (s.setMoves rest)
  unfold step fetch at h
  cases hm : s.moves with
  | nil =>
    simp only [hm] at h
    rw [core] at h
    cases h; exact ⟨_, _, rfl, .inl rfl⟩
  | cons m rest =>
    simp only [hm] at h
    cases m with
    | core =>
      simp only [fetchMove] at h
      rw [core] at h
      cases h; exact ⟨_, _, rfl, .inl rfl⟩
    | tickIn => cases h; exact ⟨_, _, rfl, .inr (.inl rfl)⟩
    | rst => cases h; exact ⟨_, _, rfl, .inr (.inr (.inl rfl))⟩
    | sensRaw v => cases h; exact ⟨_, _, rfl, .inr (.inr (.inr (.inl ⟨v, rfl⟩)))⟩
    | cfgPol p => cases h; exact ⟨_, _, rfl, .inr (.inr (.inr (.inr (.inl ⟨_, p, rfl⟩))))⟩
    | cfgHalt p => cases h; exact ⟨_, _, rfl, .inr (.inr (.inr (.inr (.inl ⟨p, _, rfl⟩))))⟩
    | stim w =>
      simp only [fetchMove] at h
      rcases decodeStim_cases w with e | e | ⟨v, e⟩ | ⟨hp, pp, e⟩ | e | ⟨_, e⟩ <;> simp only [e] at h
      · cases hd : dispatchEnabled s
        · simp only [hd] at h
          cases h; exact ⟨rest, _, rfl, .inr (.inr (.inr (.inr (.inr (.inl ⟨hd, rfl⟩)))))⟩
        · simp only [hd] at h
          have hd' : dispatchEnabled (s.setMoves (.stim w :: rest)) = true := hd
          cases h; exact ⟨.stim w :: rest, _, rfl, .inl (by rw [hd']; rfl)⟩
      · cases h; exact ⟨_, _, rfl, .inr (.inr (.inr (.inr (.inr (.inr rfl)))))⟩
      · cases h; exact ⟨_, _, rfl, .inr (.inr (.inr (.inl ⟨v, rfl⟩)))⟩
      · cases h; exact ⟨_, _, rfl, .inr (.inr (.inr (.inr (.inl ⟨hp, pp, rfl⟩))))⟩
      · cases h; exact ⟨_, _, rfl, .inr (.inr (.inl rfl))⟩
      · exact nomatch h

/-- An invariant packaged once: a property of the registers, the parameters and the levels that does not look at the
moves, and that every operation of the step relation keeps, is kept by every step. -/
theorem step_keeps {P : State → Prop} (moves : ∀ s ms, P s → P (s.setMoves ms)) (reset : ∀ s, P s → P (applyReset s))
    (sens : ∀ s v, P s → P (s.setSensRaw v)) (pins : ∀ s h p, P s → P (s.setCfgPins h p))
    (tickreq : ∀ s, P s → P (requestTick s)) (tick : ∀ s, dispatchEnabled s = true → P s → P (takeTick s))
    (main : ∀ s, dispatchEnabled s = false → P s → P (mainStep s)) {s t : State} (hs : P s) (h : step s = .next t) :
    P t := by
  have after : ∀ s, P s → P (dispatchIfEnabled s) := fun s hs => by
    unfold dispatchIfEnabled; split
    · exact tick s ‹_› hs
    · exact hs
  obtain ⟨rest, u, rfl, rfl | rfl | rfl | ⟨v, rfl⟩ | ⟨hp, pp, rfl⟩ | ⟨hd, rfl⟩ | rfl⟩ := step_cases h
  · cases hd : dispatchEnabled (s.setMoves rest) with
    | true => exact tick _ hd (moves _ _ hs)
    | false => exact main _ hd (moves _ _ hs)
  · exact tickreq _ (moves _ _ hs)
  · exact reset _ (moves _ _ hs)
  · exact sens _ v (moves _ _ hs)
  · exact pins _ hp pp (moves _ _ hs)
  · exact after _ (main _ hd (moves _ _ hs))
  · exact after _ (tickreq _ (moves _ _ hs))

end Sys2Proof.Machine
end

