-- ==== Sys2Proof/Tests/Slice0.lean ====
section
/-! SUPPORT. Small checks of one operation each. Expected values are those of 95_test_vectors.md (named V-…) or of the
examples of the rules named; the last part shows, for each statement with hypotheses, a state that meets them. -/

open Sys2Proof Sys2Proof.Machine

namespace Sys2Proof.Tests

/-- What one field is after a step, where the step has a next state. -/
def after {α : Type} (o : Host.Outcome State Fault Refusal) (f : State → α) : Option α :=
  match o with
  | .next s => some (f s)
  | .fault _ => none
  | .refused _ => none

/-- The refusal of a step, where it is refused. -/
def refusal (o : Host.Outcome State Fault Refusal) : Option Refusal :=
  match o with
  | .next _ => none
  | .fault _ => none
  | .refused r => some r

/-- The reference design in the RUN phase at a sequencer step, in a steering state. -/
def running (q : SeqStep) (st : Steering) : State := { State.reset with seq := q, steer := st, tickEn := true, pol := true }

/-- One side's registers for a tick: counter and duty. -/
def sideAt (c d : Nat) : SideRegs := ⟨BitVec.ofNat 8 c, BitVec.ofNat 8 d, .forward, .coast⟩

/-- The enable pair and the counter a PWMTICK.L leaves, for a PERIOD, a counter and a duty. -/
def pwmVector (period c d : Nat) : Option (Pair × Word8) :=
  after (exec .pwmtickL { State.reset with cfg := { Config.reference with period := period }, left := sideAt c d })
    fun s => (s.outPin .enL, s.left.cnt)

/-- STATE and SEQ after SENSE, for a polarity, a raw reading and a state. -/
def senseVector (pol : Bool) (raw : Sens7) (st : Steering) : Option (Steering × SeqStep) :=
  after (exec .sense { running .sense st with pol := pol, sensRaw := raw }) fun s => (s.steer, s.seq)

/-! ### Well-formedness refuses each ill-formed term -/

theorem test_period_zero_refused : ¬Config.WellFormed { Config.reference with period := 0 } := by decide
theorem test_period_256_refused : ¬Config.WellFormed { Config.reference with period := 256 } := by decide
theorem test_left_start_at_period_refused : ¬Config.WellFormed { Config.reference with cntInitL := 90 } := by decide
theorem test_right_start_at_period_refused : ¬Config.WellFormed { Config.reference with cntInitR := 90 } := by decide
theorem test_reserved_kinds_refused : [0x200, 0x280, 0x300].map stimWellFormed = [false, false, false] := by decide
theorem test_arguments_refused : [0x001, 0x0C0, 0x381, 0x184, 0x1C0].map stimWellFormed = List.replicate 5 false := by decide
theorem test_words_accepted : [0x000, 0x080, 0x17F, 0x183, 0x380].map stimWellFormed = List.replicate 5 true := by decide
theorem test_move_refused : (Move.stim 0x200).wellFormed = false := by decide
theorem test_loop_illegal_off_sense : Pseudo.legal .wrdirL .loop = false := by decide
theorem test_loop_illegal_expands_to_nothing : expand (running .wrdirL .centered) .loop = none := by decide

/-! ### Decoding, from words written out from 30_encoding.md R74, R75, R76, R81, R85 -/

theorem test_decode_cfgrd : decode ⟨.seq3, 0b000⟩ = .ok .cfgrd := by decide
theorem test_decode_sense : decode ⟨.seq3, 0b001⟩ = .ok .sense := by decide
theorem test_decode_wrdirL : decode ⟨.seq3, 0b010⟩ = .ok .wrdirL := by decide
theorem test_decode_wrdutyL : decode ⟨.seq3, 0b011⟩ = .ok .wrdutyL := by decide
theorem test_decode_wrdirR : decode ⟨.seq3, 0b100⟩ = .ok .wrdirR := by decide
theorem test_decode_wrdutyR : decode ⟨.seq3, 0b101⟩ = .ok .wrdutyR := by decide
theorem test_decode_idle : decode ⟨.seq3, 0b111⟩ = .ok .idle := by decide
theorem test_decode_pwmtickL : decode ⟨.tickPendPartL, 0b1⟩ = .ok .pwmtickL := by decide
theorem test_decode_pwmtickR : decode ⟨.tickPendPartR, 0b1⟩ = .ok .pwmtickR := by decide
theorem test_decode_dispatch : decode ⟨.tickPend, 0b1⟩ = .ok .dispatch := by decide
theorem test_decode_tickreq : decode ⟨.tickIn, 0b1⟩ = .ok .tickreq := by decide
theorem test_decode_reset : decode ⟨.rstIn, 0b1⟩ = .ok .reset := by decide
theorem test_decode_no_event : decode ⟨.tickIn, 0b0⟩ = .error .noEvent := by decide
theorem test_decode_clsCentered : decode ⟨.sens7, 0b1111111⟩ = .ok .clsCentered := by decide
theorem test_decode_clsSoftleft : decode ⟨.sens7, 0b0110000⟩ = .ok .clsSoftleft := by decide
theorem test_decode_clsSoftright : decode ⟨.sens7, 0b1100111⟩ = .ok .clsSoftright := by decide
theorem test_decode_clsHardleft : decode ⟨.sens7, 0b0100010⟩ = .ok .clsHardleft := by decide
theorem test_decode_clsHardright : decode ⟨.sens7, 0b1000010⟩ = .ok .clsHardright := by decide
theorem test_decode_clsLostleft : decode ⟨.sens7, 0b1000001⟩ = .ok .clsLostleft := by decide
theorem test_decode_clsLostright : decode ⟨.sens7, 0b0000001⟩ = .ok .clsLostright := by decide
theorem test_decode_clsHold : decode ⟨.sens7, 0b0000000⟩ = .ok .clsHold := by decide
theorem test_decode_cmdCentered : decode ⟨.st3, 0b000⟩ = .ok .cmdCentered := by decide
theorem test_decode_cmdSoftleft : decode ⟨.st3, 0b001⟩ = .ok .cmdSoftleft := by decide
theorem test_decode_cmdSoftright : decode ⟨.st3, 0b010⟩ = .ok .cmdSoftright := by decide
theorem test_decode_cmdHardleft : decode ⟨.st3, 0b011⟩ = .ok .cmdHardleft := by decide
theorem test_decode_cmdHardright : decode ⟨.st3, 0b100⟩ = .ok .cmdHardright := by decide
theorem test_decode_cmdLostleft : decode ⟨.st3, 0b101⟩ = .ok .cmdLostleft := by decide
theorem test_decode_cmdLostright : decode ⟨.st3, 0b110⟩ = .ok .cmdLostright := by decide
theorem test_decode_step : decodeStim 0b0000000000 = .ok .step := by decide
theorem test_decode_tick : decodeStim 0b0010000000 = .ok .tick := by decide
theorem test_decode_sens : decodeStim 0b0100010000 = .ok (.sens 0b0010000) := by decide
theorem test_decode_cfg_halt : decodeStim 0b0110000010 = .ok (.cfg true false) := by decide
theorem test_decode_cfg_pol : decodeStim 0b0110000001 = .ok (.cfg false true) := by decide
theorem test_decode_rst : decodeStim 0b1110000000 = .ok .rst := by decide
theorem test_decode_seq6_refused : decode ⟨.seq3, 0b110⟩ = .error .reservedSeq := by decide
theorem test_decode_state7_refused : decode ⟨.st3, 0b111⟩ = .error .reservedState := by decide
theorem test_decode_wide_code_refused : decode ⟨.seq3, 0b1000⟩ = .error .tooWide := by decide
theorem test_table_words : [decodeTableWord 8 0x2, decodeTableWord 8 0x6, decodeTableWord 8 0x20, decodeTableWord 16 0x155,
    decodeTableWord 16 0x400, decodeTableWord 8 0x80] =
    [some .wrdirL, some .cmdLostright, some .clsHardleft, some (.sens 0x55), none, none] := by decide

theorem test_reserved_pairs_refused : [DirSel.ofCode 0b11 |>.toOption] = [none] ∧
    [Enable.ofCode 0b01, Enable.ofCode 0b10].map Except.toOption = [none, none] := by decide
theorem test_drive : [drive 0b11 0b10, drive 0b11 0b01, drive 0b00 0b10, drive 0b10 0b10, drive 0b00 0b11].map Except.toOption =
    [some .driveForward, some .driveBackward, some .coast, none, none] := by decide

/-! ### The PWM generator (V-PWM-2, 3, 4, 5b, 6, 8, 10, 14; V-IRQ-4) -/

theorem test_pwm_boundary_high : pwmVector 90 7 7 = some (0b11, 8) := by decide
theorem test_pwm_wrap_low : pwmVector 90 89 7 = some (0b00, 0) := by decide
theorem test_pwm_right : after (exec .pwmtickR { State.reset with right := sideAt 89 4 }) (fun s => (s.outPin .enR, s.right.cnt, s.left.cnt)) =
    some (0b00, 0, 0) := by decide
theorem test_pwm_largest_period : pwmVector 255 254 3 = some (0b00, 0) := by decide
theorem test_dispatch : after (exec .dispatch { running .sense .centered with left := sideAt 0 7, right := sideAt 45 7, tickPend := true })
    (fun s => (s.outPin .enL, s.left.cnt, s.outPin .enR, s.right.cnt, s.tickPend)) = some (0b11, 1, 0b00, 46, false) := by decide

/-! ### Requests, enabling, reset (V-IRQ-1 to 7, V-RST-1) -/

theorem test_tickreq_dropped : after (exec .tickreq State.reset) (·.tickPend) = some false := by decide
theorem test_tickreq_latched : after (exec .tickreq (running .sense .centered)) (·.tickPend) = some true := by decide
theorem test_hold : let s := { running .wrdutyL .centered with tickPend := true, cfg := { Config.reference with cmdAtomic := true } }
    (dispatchEnabled s, mainEnabled s, dispatchEnabled { s with seq := .wrdirR }, dispatchEnabled { s with cfg := Config.reference }) =
      (false, true, true, true) := by decide
theorem test_reset : after (exec .reset { running .wrdutyR .lostLeft with left := sideAt 5 7, tickPend := true })
    (fun s => (s.left, s.right, s.steer, s.seq, s.tickEn, s.tickPend)) =
      some (⟨0, 0, .none, .coast⟩, ⟨45, 0, .none, .coast⟩, .centered, .cfgrd, false, false) := by decide

/-! ### The sequencer (V-SEQ-1 to 4) -/

theorem test_cfgrd_run : after (exec .cfgrd { State.reset with cfgPol := true }) (fun s => (s.pol, s.tickEn, s.seq)) =
    some (true, true, .sense) := by decide
theorem test_cfgrd_halt : after (exec .cfgrd { State.reset with cfgPol := true, cfgHalt := true }) (fun s => (s.pol, s.tickEn, s.seq)) =
    some (true, false, .idle) := by decide
theorem test_idle : after (exec .idle { State.reset with seq := .idle }) (·.seq) = some .idle := by decide

/-! ### The steering unit (V-CLS-3, 13, 15, 18; V-CMD-2, 6) -/

theorem test_sense_priority : senseVector true 0b1110111 .centered = some (.softLeft, .wrdirL) := by decide
theorem test_sense_active_low : senseVector false 0b0111111 .centered = some (.lostLeft, .wrdirL) := by decide
theorem test_sense_hold : senseVector true 0 .hardRight = some (.hardRight, .wrdirL) := by decide
theorem test_cls_hardleft : after (exec .clsHardleft { running .sense .centered with sensRaw := 0b0100010 }) (·.steer) = some .hardLeft := by
  decide
theorem test_cls_not_selected : after (exec .clsHardleft { running .sense .centered with sensRaw := 0b0110000 }) (·.steer) = some .centered := by
  decide
theorem test_cmd_softleft : after (exec .cmdSoftleft (running .wrdirL .softLeft)) (fun s => (s.outPin .dselL, s.left.duty, s.outPin .dselR, s.right.duty)) =
    some (0b01, 3, 0b10, 7) := by decide
theorem test_cmd_lostleft_packed : ((commandOf CmdTable.reference .lostLeft).left.pack, (commandOf CmdTable.reference .lostLeft).right.pack) =
    (0x107, 0x004) := by decide

/-! ### The motor driver (V-WR-1 to 4) -/

theorem test_wrdirL : after (exec .wrdirL (running .wrdirL .softLeft)) (fun s => (s.outPin .dselL, s.seq)) = some (0b01, .wrdutyL) := by decide
theorem test_wrdutyL : after (exec .wrdutyL (running .wrdutyL .softLeft)) (fun s => (s.left.duty, s.seq)) = some (3, .wrdirR) := by decide
theorem test_wrdirR : after (exec .wrdirR (running .wrdirR .softLeft)) (fun s => (s.outPin .dselR, s.seq)) = some (0b10, .wrdutyR) := by decide
theorem test_wrdutyR : after (exec .wrdutyR (running .wrdutyR .softLeft)) (fun s => (s.right.duty, s.seq)) = some (7, .sense) := by decide

/-! ### Stimulus words (the steps of P5 and P6 around the window) -/

/-- P5 after WRDIR.L: a new direction, the old duty, counter 5. -/
def inWindow (atomic : Bool) : State :=
  { running .wrdutyL .softLeft with
    left := ⟨5, 7, .backward, .energized⟩, right := ⟨50, 7, .forward, .coast⟩, cfg := { Config.reference with cmdAtomic := atomic } }

theorem test_tick_in_window_torn : after (exec .tick (inWindow false)) (fun s => (s.left.cnt, s.outPin .enL, s.tickPend)) =
    some (6, 0b11, false) := by decide
theorem test_tick_in_window_held : after (exec .tick (inWindow true)) (fun s => (s.left.cnt, s.outPin .enL, s.tickPend)) =
    some (5, 0b11, true) := by decide
theorem test_step_releases_held_tick : after (exec .step { inWindow true with tickPend := true })
    (fun s => (s.left.duty, s.seq, s.left.cnt, s.outPin .enL, s.tickPend)) = some (3, .wrdirR, 6, 0b00, false) := by decide
theorem test_sens : after (exec (.sens 0x13) State.reset) (·.sensRaw) = some 0x13 := by decide
theorem test_cfg : after (exec (.cfg true false) State.reset) (fun s => (s.cfgHalt, s.cfgPol)) = some (true, false) := by decide
theorem test_rst : after (exec .rst (inWindow true)) (fun s => (s.seq, s.outPin .enL, s.right.cnt)) = some (.cfgrd, 0b00, 45) := by decide

/-! ### The step -/

theorem test_step_from_reset_is_cfgrd : after (step State.reset) (fun s => (s.seq, s.tickEn)) = some (.sense, true) := by decide
theorem test_step_dispatches_first : after (step { running .sense .centered with tickPend := true }) (fun s => (s.left.cnt, s.seq)) =
    some (1, .sense) := by decide
theorem test_step_refuses_ill_formed : refusal (step { State.reset with moves := [.stim 0x200] }) = some (.illFormedStimulus 0x200) := by
  decide
theorem test_fetch_word_runs_row : after (step (State.reset.withFetchWord 8 0x20)) (·.steer) = some .hardLeft := by decide
theorem test_fetch_word_runs_word : after (step (State.reset.withFetchWord 16 0x155)) (·.sensRaw) = some 0x55 := by decide

/-! ### States that meet the hypotheses of the statements -/

/-- A running state with the Centered command in place (P1 after LOOP), at a sequencer step. -/
def inPlace (q : SeqStep) : State := { running q .centered with left := ⟨0, 7, .forward, .coast⟩, right := ⟨45, 7, .forward, .coast⟩ }

/-- A state of the configured halt (P4). -/
def halted : State := { State.reset with seq := .idle, pol := true }

theorem inPlace_inv (q : SeqStep) (h : phaseOf q = .run) : RegistersInv (inPlace q) := by
  cases q <;> exact ⟨by decide, fun x => by cases x <;> decide, fun x => by cases x <;> decide,
    fun x => by cases x <;> decide, ⟨fun _ => h, fun _ => rfl⟩, fun _ => rfl⟩

theorem inPlace_shows (q : SeqStep) : DriverShows (inPlace q) (some .centered) := fun x => by cases x <;> exact ⟨rfl, rfl⟩

theorem meets_StimulusWords : decodeStim 0x183 = .ok (.cfg true true) := by decide
theorem meets_ReservedCodes : stimKind 0x200 = 0b100 ∧ stimKind 0x2FF = 0b101 ∧ stimKind 0x37F = 0b110 := by decide
theorem meets_StepRuns_word : ∃ s w i, s.moves = [.stim w] ∧ decodeStim w = .ok i ∧ ¬(i = .step ∧ dispatchEnabled s = true) :=
  ⟨{ State.reset with moves := [.stim 0] }, 0, .step, rfl, rfl, by decide⟩
theorem meets_StepRuns_waiting : ∃ s, s.moves = [.stim 0] ∧ decodeStim 0 = .ok .step ∧ dispatchEnabled s = true :=
  ⟨{ inPlace .sense with tickPend := true, moves := [.stim 0] }, rfl, rfl, by decide⟩
theorem meets_StepRuns_ill_formed : ∃ (s : State) (e : DecodeError), s.moves = [.stim 0x3FF] ∧ decodeStim 0x3FF = .error e ∧ s.seq = .cfgrd :=
  ⟨{ State.reset with moves := [.stim 0x3FF] }, _, rfl, rfl, rfl⟩
theorem meets_StepRuns_moves : ∃ a b c d e f : State, a.moves = [] ∧ b.moves = [.core] ∧ c.moves = [.tickIn] ∧ d.moves = [.rst] ∧
    e.moves = [.sensRaw 127] ∧ f.moves = [.cfgPol true, .cfgHalt true] :=
  ⟨State.reset, State.reset.setMoves [.core], State.reset.setMoves [.tickIn], State.reset.setMoves [.rst],
    State.reset.setMoves [.sensRaw 127], State.reset.setMoves [.cfgPol true, .cfgHalt true], rfl, rfl, rfl, rfl, rfl, rfl⟩
theorem meets_PendingTick : State.reset.moves = [] := rfl
theorem meets_step_next : ∃ t, step State.reset = .next t ∧ t.phase = .run := ⟨_, rfl, rfl⟩
theorem meets_EveryRelationStep : CoreStep .dispatch { inPlace .sense with tickPend := true } (takeTick { inPlace .sense with tickPend := true }) ∧
    CoreStep .main State.reset (mainStep State.reset) := ⟨.dispatch _ (by decide), .main _ (by decide)⟩
theorem meets_StepStops : MovesWellFormed { State.reset with moves := [.stim 0x380, .core] } ∧
    refusal (step { State.reset with moves := [.stim 0x3FF] }) = some (.illFormedStimulus 0x3FF) := by
  unfold MovesWellFormed; decide
theorem meets_RunLoop : CoreStep .main (inPlace .wrdutyR) (mainStep (inPlace .wrdutyR)) ∧ (inPlace .wrdutyR).phase = .run ∧
    CoreStep .reset (inPlace .sense) (applyReset (inPlace .sense)) ∧ (inPlace .sense).phase = .run :=
  ⟨.main _ (by decide), rfl, .reset _, rfl⟩
theorem meets_HaltedRun : RegistersInv halted ∧ halted.phase = .halt ∧
    ∃ t, CoreTrace halted [(halted, .tickreq), (requestTick halted, .main)] t ∧ .reset ∉ labels [(halted, .tickreq), (requestTick halted, .main)] :=
  ⟨⟨by decide, fun x => by cases x <;> decide, fun x => by cases x <;> decide, fun x => by cases x <;> decide,
    ⟨fun h => (nomatch h), fun h => (nomatch h)⟩, fun h => (nomatch h)⟩, rfl, _, .cons (.tickreq _) (.cons (.main _ (by decide)) (.nil _)), by decide⟩
theorem meets_PinsAreRead : (inPlace .idle).seq ≠ .sense ∧ (inPlace .sense).seq ≠ .cfgrd ∧
    (∃ t, exec (inPlace .idle).seq.instr (inPlace .idle) = .next t) ∧ ∃ t, exec (inPlace .sense).seq.instr (inPlace .sense) = .next t :=
  ⟨by decide, by decide, ⟨_, rfl⟩, ⟨_, rfl⟩⟩
theorem meets_EmptyReading : ∀ i, i < 7 → ({ inPlace .sense with sensRaw := 0 }).sensRaw.getLsbD i ≠ ({ inPlace .sense with sensRaw := 0 }).pol := by
  decide
theorem meets_exec_next : (∃ t, exec .sense (inPlace .sense) = .next t) ∧ (∃ t, exec .dispatch (inPlace .sense) = .next t) ∧
    ∃ t, exec .sense (((inPlace .sense).setPol false).setSensRaw (~~~0)) = .next t := ⟨⟨_, rfl⟩, ⟨_, rfl⟩, ⟨_, rfl⟩⟩
theorem meets_SenseHasNoOtherMemory : (running .sense .centered).pol = (inPlace .sense).pol ∧
    (running .sense .centered).sensRaw = (inPlace .sense).sensRaw ∧ (running .sense .centered).steer = (inPlace .sense).steer ∧
    ∃ i, i < 7 ∧ ({ running .sense .lostLeft with sensRaw := 0b1000000 }).sensRaw.getLsbD i = true := ⟨rfl, rfl, rfl, 6, by decide, rfl⟩
theorem meets_WholeIteration : ∃ tr t, CoreTrace (inPlace .sense) tr t ∧ (inPlace .sense).seq = .sense ∧ .reset ∉ labels tr ∧
    (labels tr).count .main = 5 :=
  ⟨_, _, .cons (.main _ (by decide)) (.cons (.main _ (by decide)) (.cons (.tickreq _) (.cons (.dispatch _ (by decide))
    (.cons (.main _ (by decide)) (.cons (.main _ (by decide)) (.cons (.main _ (by decide)) (.nil _))))))), rfl, by decide, by decide⟩
theorem meets_DriverInvariant : (DriverInv (inPlace .sense) ∧ ∃ t, step (inPlace .sense) = .next t) ∧
    DriverInv (inPlace .wrdirL) ∧ DriverInv (inPlace .wrdutyL) ∧ DriverInv (inPlace .wrdirR) ∧ DriverInv (inPlace .wrdutyR) ∧
    DriverInv State.reset ∧ DriverInv halted :=
  ⟨⟨.inr (inPlace_shows _), _, rfl⟩, ⟨some .centered, inPlace_shows _⟩, ⟨rfl, some .centered, rfl, inPlace_shows _ .right⟩,
    ⟨inPlace_shows _ .left, some .centered, inPlace_shows _ .right⟩, ⟨inPlace_shows _ .left, rfl, some .centered, rfl⟩,
    (fun x => by cases x <;> exact ⟨rfl, rfl⟩), (fun x => by cases x <;> exact ⟨rfl, rfl⟩)⟩
theorem meets_AtomicCommand : ∃ s, DriverInv s ∧ s.cfg.cmdAtomic = true ∧ dispatchEnabled s = true :=
  ⟨{ inPlace .sense with tickPend := true, cfg := { Config.reference with cmdAtomic := true } },
    .inr (fun x => by cases x <;> exact ⟨rfl, rfl⟩), rfl, by decide⟩
theorem meets_PinsSay : ∃ a b c : SideRegs, (a.en.code = 0b11 ∧ a.dsel.code = 0b10) ∧
    (b.en.code = 0b11 ∧ b.dsel.code = 0b01) ∧ (c.en.code = 0b00 ∧ c.dsel.code = 0b00) :=
  ⟨⟨0, 0, .forward, .energized⟩, ⟨0, 0, .backward, .energized⟩, ⟨0, 0, .none, .coast⟩, by decide⟩
theorem meets_counter_bounds : ((1 : Nat) ≤ 255 ∧ (sideAt 0 0).cnt.toNat < 1) ∧ (255 : Nat) ≤ 255 ∧ (sideAt 254 3).cnt.toNat < 255 := by decide
theorem meets_PhaseSkew : RegistersInv (inPlace .sense) ∧ SkewInv (inPlace .sense) ∧ ∃ t, step (inPlace .sense) = .next t :=
  ⟨inPlace_inv _ rfl, rfl, _, rfl⟩
theorem meets_EnableDepends : (inPlace .sense).cfg.period = (inPlace .wrdirL).cfg.period ∧
    ((inPlace .sense).side .left).cnt = ((inPlace .wrdirL).side .left).cnt ∧
    ((inPlace .sense).side .left).duty = ((inPlace .wrdirL).side .left).duty ∧
    (∃ t, exec .dispatch (inPlace .sense) = .next t) ∧ ∃ t, exec .dispatch (inPlace .wrdirL) = .next t :=
  ⟨rfl, rfl, rfl, ⟨_, rfl⟩, ⟨_, rfl⟩⟩
theorem meets_TickRequestCommutes : ∃ u v w, (inPlace .wrdutyR).seq ≠ .cfgrd ∧ exec .tickreq (inPlace .wrdutyR) = .next u ∧
    exec (inPlace .wrdutyR).seq.instr u = .next v ∧ exec (inPlace .wrdutyR).seq.instr (inPlace .wrdutyR) = .next w :=
  ⟨_, _, _, by decide, rfl, rfl, rfl⟩
theorem meets_MainNeverWrites : ∀ q : SeqStep, ∃ t, exec q.instr (inPlace q) = .next t := fun q => by cases q <;> exact ⟨_, rfl⟩
theorem meets_NoTickIsLost : ∃ tr t, CoreTrace (inPlace .sense) tr t ∧ RegistersInv (inPlace .sense) ∧ (inPlace .sense).phase = .run ∧
    .reset ∉ labels tr ∧ NoOverrun tr ∧ (labels tr).count .tickreq = 2 :=
  ⟨_, _, .cons (.tickreq _) (.cons (.dispatch _ (by decide)) (.cons (.main _ (by decide)) (.cons (.tickreq _) (.nil _)))),
    inPlace_inv _ rfl, rfl, by decide, by unfold NoOverrun; decide, by decide⟩
theorem meets_OutputsChange : CoreStep .dispatch { inPlace .wrdirL with tickPend := true } (takeTick { inPlace .wrdirL with tickPend := true }) ∧
    (takeTick { inPlace .wrdirL with tickPend := true }).outPin .enL ≠ (inPlace .wrdirL).outPin .enL ∧
    (mainStep { inPlace .wrdirL with steer := .softLeft }).outPin .dselL ≠ (inPlace .wrdirL).outPin .dselL ∧
    (mainStep { inPlace .wrdirR with steer := .softRight }).outPin .dselR ≠ (inPlace .wrdirR).outPin .dselR ∧
    (mainStep { inPlace .wrdutyL with steer := .softLeft }).left.duty ≠ (inPlace .wrdutyL).left.duty ∧
    (mainStep { inPlace .wrdutyR with steer := .softRight }).right.duty ≠ (inPlace .wrdutyR).right.duty :=
  ⟨.dispatch _ (by decide), by decide, by decide, by decide, by decide, by decide⟩
theorem meets_RegisterInvariant : RegistersInv (inPlace .sense) ∧ ∃ t, step (inPlace .sense) = .next t := ⟨inPlace_inv _ rfl, _, rfl⟩
theorem meets_QuietOutsideRun : QuietOutsideRun State.reset ∧ QuietOutsideRun halted ∧ ∃ t, step halted = .next t :=
  ⟨fun _ => ⟨rfl, rfl, rfl, rfl, rfl⟩, fun _ => ⟨rfl, rfl, rfl, rfl, rfl⟩, _, rfl⟩
theorem meets_ReferenceDuties : ReferenceDuties (inPlace .sense) ∧ ∃ t, step (inPlace .sense) = .next t :=
  ⟨⟨rfl, fun x => by cases x <;> decide⟩, _, rfl⟩
theorem meets_InvariantsHoldAtReset : Config.reference.WellFormed := by decide
theorem meets_LoopTrace : (inPlace .sense).seq = .sense ∧ (inPlace .sense).tickPend = false := ⟨rfl, rfl⟩
theorem meets_TicksTrace : (inPlace .sense).tickEn = true ∧ (inPlace .sense).tickPend = false ∧ held (inPlace .sense) = false := by decide

/-- The run in which MAIN goes on alone. -/
def mainOnly : Nat → State
  | 0 => inPlace .sense
  | n + 1 => mainStep (mainOnly n)

theorem mainOnly_noTick (n : Nat) : (mainOnly n).tickPend = false := by
  induction n with
  | zero => rfl
  | succ n ih =>
    have : ∀ s, (mainStep s).tickPend = s.tickPend := fun s => by
      unfold mainStep
      cases s.seq
      case cfgrd => unfold readConfiguration; dsimp only; split <;> rfl
      all_goals rfl
    exact (this _).trans ih

theorem meets_FairRun : InfiniteRun mainOnly (fun _ => .main) ∧ WeaklyFair (fun _ => .main) ∧ (mainOnly 0).phase = .run ∧
    ∀ n : Nat, (fun _ : Nat => Label.main) n ≠ .reset :=
  ⟨fun n => .main _ (by simp [mainEnabled, dispatchEnabled, mainOnly_noTick n]),
    ⟨fun n => ⟨n, le_refl n, rfl⟩, fun h => nomatch (h 0).choose_spec.2⟩, rfl, fun _ h => nomatch h⟩

end Sys2Proof.Tests
end

/-! # The state: its registers, what steps keep of them, what MAIN leaves alone (10_state.md)

First the facts about single operations, in the order of the model's definitions; then each invariant of R39 with one
lemma per operation that can break it, put together by `step_keeps`. -/

namespace Sys2Proof.Machine

/-! ### The phase, and when DISPATCH is enabled -/

@[simp] theorem State.setSeq_phase (s : State) (q : SeqStep) : (s.setSeq q).phase = phaseOf q := rfl
@[simp] theorem takeTick_phase (s : State) : (takeTick s).phase = s.phase := rfl
@[simp] theorem applyReset_phase (s : State) : (applyReset s).phase = .boot := rfl

/-- BOOT is the phase of CFGRD alone (60_exceptions.md R220). -/
theorem State.phase_eq_boot {s : State} : s.phase = .boot ↔ s.seq = .cfgrd := by
  unfold State.phase; cases s.seq <;> simp [phaseOf]

/-- HALT is the phase of IDLE alone (60_exceptions.md R220). -/
theorem State.phase_eq_halt {s : State} : s.phase = .halt ↔ s.seq = .idle := by
  unfold State.phase; cases s.seq <;> simp [phaseOf]

/-- DISPATCH needs a pending tick (60_exceptions.md R210). -/
theorem tickPend_of_dispatchEnabled {s : State} (h : dispatchEnabled s = true) : s.tickPend = true := by
  unfold dispatchEnabled at h
  exact (Bool.and_eq_true_iff.mp h).1

/-! ### The tick request and reset, field by field -/

@[simp] theorem requestTick_tickEn (s : State) : (requestTick s).tickEn = s.tickEn := by rw [requestTick_eq]; rfl
@[simp] theorem requestTick_tickPend (s : State) : (requestTick s).tickPend = (s.tickEn || s.tickPend) := by
  rw [requestTick_eq]; rfl
@[simp] theorem requestTick_phase (s : State) : (requestTick s).phase = s.phase := by rw [requestTick_eq]; rfl
@[simp] theorem requestTick_side (s : State) (x : Side) : (requestTick s).side x = s.side x := by
  rw [requestTick_eq, State.setTickPend_side]
@[simp] theorem requestTick_cfg (s : State) : (requestTick s).cfg = s.cfg := by rw [requestTick_eq]; rfl

/-- A request while ticks are disabled is dropped (60_exceptions.md R206). -/
theorem requestTick_of_disabled {s : State} (h : s.tickEn = false) : requestTick s = s := by
  simp [requestTick, h]

@[simp] theorem applyReset_side (s : State) (x : Side) : (applyReset s).side x = SideRegs.reset (cntInitOf s.cfg x) := by
  cases x <;> rfl
@[simp] theorem applyReset_cfg (s : State) : (applyReset s).cfg = s.cfg := rfl
@[simp] theorem applyReset_tickEn (s : State) : (applyReset s).tickEn = false := rfl
@[simp] theorem applyReset_tickPend (s : State) : (applyReset s).tickPend = false := rfl

/-! ### What MAIN's micro-operation does in each phase -/

/-- In BOOT a MAIN step is CFGRD (43_sequencer.md R171). -/
theorem mainStep_of_boot {s : State} (h : s.phase = .boot) :
    mainStep s =
      if s.cfgHalt = true then (s.setPol s.cfgPol).setSeq .idle else ((s.setPol s.cfgPol).setTickEn true).setSeq .sense := by
  rw [← readConfiguration_eq, mainStep, State.phase_eq_boot.mp h]

/-- In HALT a MAIN step is IDLE and changes nothing (43_sequencer.md R178). -/
theorem mainStep_of_halt {s : State} (h : s.phase = .halt) : mainStep s = s := by
  have hseq : s.seq = .idle := State.phase_eq_halt.mp h
  calc mainStep s = s.setSeq .idle := by rw [mainStep, hseq]; rfl
    _ = s.setSeq s.seq := by rw [hseq]
    _ = s := rfl

/-- A MAIN step stays in the RUN phase (43_sequencer.md R182). -/
theorem mainStep_phase_of_run {s : State} (h : s.phase = .run) : (mainStep s).phase = .run := by
  unfold State.phase at h
  unfold mainStep
  cases hseq : s.seq <;> rw [hseq] at h
  case cfgrd | idle => exact nomatch h
  all_goals rfl

/-- In the RUN phase a MAIN step leaves TICK_EN alone: only CFGRD writes it (10_state.md R32). -/
theorem mainStep_tickEn_of_run {s : State} (h : s.phase = .run) : (mainStep s).tickEn = s.tickEn := by
  unfold State.phase at h
  unfold mainStep
  cases hseq : s.seq <;> rw [hseq] at h
  case cfgrd | idle => exact nomatch h
  case sense => rfl
  case wrdirL | wrdutyL | wrdirR | wrdutyR => exact State.setSide_tickEn s _ _

/-- A MAIN step leaves every counter alone (10_state.md R37). -/
@[simp] theorem mainStep_cnt (s : State) (x : Side) : ((mainStep s).side x).cnt = (s.side x).cnt := by
  obtain ⟨hside, -⟩ := mainStep_frame s
  exact (hside x).1

/-- A MAIN step leaves a side's duty alone or writes the duty of the command in force (42_motor_driver.md R152, R154). -/
theorem mainStep_duty (s : State) (x : Side) :
    ((mainStep s).side x).duty = (s.side x).duty ∨ ((mainStep s).side x).duty = (commandFor s x).duty := by
  unfold mainStep
  cases s.seq
  case cfgrd => dsimp only; rw [readConfiguration_eq]; split <;> simp
  case sense => exact .inl (by simp [senseAndClassify])
  case idle => exact .inl (by simp [stayIdle])
  case wrdirL => exact .inl (by cases x <;> rfl)
  case wrdirR => exact .inl (by cases x <;> rfl)
  case wrdutyL => cases x; exacts [.inr rfl, .inl rfl]
  case wrdutyR => cases x; exacts [.inl rfl, .inr rfl]

/-- No micro-operation of MAIN looks at SEQ: each writes SEQ with its own successor. -/
theorem exec_seqInstr_setSeq (p q : SeqStep) (s : State) : exec q.instr (s.setSeq p) = exec q.instr s := by
  cases q
  case cfgrd =>
    change Host.Outcome.next (readConfiguration (s.setSeq p)) = .next (readConfiguration s)
    rw [readConfiguration_eq, readConfiguration_eq, State.setSeq_cfgHalt]
    split <;> rfl
  all_goals rfl

/-- Each micro-operation is a MAIN step of the state in which SEQ names it. -/
theorem exec_seqInstr (q : SeqStep) (s : State) : exec q.instr s = .next (mainStep (s.setSeq q)) := by
  rw [← exec_seqInstr_setSeq q q s]
  exact exec_seq_instr (s.setSeq q)

/-! ### The register invariant (10_state.md R39 items 1, 2, 3, 6, 7) -/

/-- What the types of the latches leave to prove of the register invariant: no latch value has an illegal pair. -/
theorem registersInv_iff {s : State} :
    RegistersInv s ↔ s.cfg.WellFormed ∧ CountersInRange s ∧ TickEnabledInRun s ∧ PendingOnlyEnabled s := by
  constructor
  · rintro ⟨hcfg, hcnt, -, -, hen, hpend⟩
    exact ⟨hcfg, hcnt, hen, hpend⟩
  · rintro ⟨hcfg, hcnt, hen, hpend⟩
    exact ⟨hcfg, hcnt, fun _ => Enable.code_paired _, fun _ => DirSel.code_legal _, hen, hpend⟩

/-- Each counter starts below PERIOD (00_scope.md R6). -/
theorem cntInitOf_lt_period {c : Config} (h : c.WellFormed) (x : Side) : (cntInitOf c x).toNat < c.period := by
  obtain ⟨-, -, hl, hr⟩ := h
  cases x
  · exact hl
  · exact hr

theorem registersInv_applyReset {s : State} (h : RegistersInv s) : RegistersInv (applyReset s) := by
  obtain ⟨hcfg, -⟩ := h
  refine registersInv_iff.mpr ⟨hcfg, fun x => ?_, ?_, ?_⟩
  · rw [applyReset_side, applyReset_cfg]
    exact cntInitOf_lt_period hcfg x
  · simp [TickEnabledInRun]
  · simp [PendingOnlyEnabled]

theorem registersInv_requestTick {s : State} (h : RegistersInv s) : RegistersInv (requestTick s) := by
  obtain ⟨hcfg, hcnt, hen, hpend⟩ := registersInv_iff.mp h
  refine registersInv_iff.mpr ⟨by rwa [requestTick_cfg], fun x => ?_, ?_, ?_⟩
  · simpa using hcnt x
  · simpa [TickEnabledInRun] using hen
  · intro hp
    rw [requestTick_tickPend, Bool.or_eq_true] at hp
    rw [requestTick_tickEn]
    exact hp.elim id hpend

/-- A tick keeps each counter below PERIOD and clears TICK_PEND. -/
theorem registersInv_takeTick {s : State} (h : RegistersInv s) : RegistersInv (takeTick s) := by
  obtain ⟨hcfg, -, hen, -⟩ := registersInv_iff.mp h
  refine registersInv_iff.mpr ⟨hcfg, fun x => ?_, ?_, ?_⟩
  · obtain ⟨hpos, hle, -⟩ := hcfg
    simpa using nextCount_lt hpos hle
  · simpa [TickEnabledInRun] using hen
  · simp [PendingOnlyEnabled]

/-- TICK_EN follows the phase: CFGRD sets it as it enters RUN, and nothing else of MAIN moves either (10_state.md R32). -/
theorem tickEnabledInRun_mainStep {s : State} (h : TickEnabledInRun s) : TickEnabledInRun (mainStep s) := by
  unfold TickEnabledInRun at *
  cases hp : s.phase with
  | boot => rw [mainStep_of_boot hp]; split <;> simp_all [phaseOf]
  | run => simpa [mainStep_tickEn_of_run hp, mainStep_phase_of_run hp, hp] using h
  | halt => rwa [mainStep_of_halt hp]

/-- MAIN never clears TICK_EN, which only RESET does (10_state.md R32). -/
theorem mainStep_tickEn_of_tickEn {s : State} (h : s.tickEn = true) : (mainStep s).tickEn = true := by
  cases hp : s.phase with
  | boot => rw [mainStep_of_boot hp]; split <;> simp [h]
  | run => rw [mainStep_tickEn_of_run hp, h]
  | halt => rw [mainStep_of_halt hp, h]

theorem registersInv_mainStep {s : State} (h : RegistersInv s) : RegistersInv (mainStep s) := by
  obtain ⟨hcfg, hcnt, hen, hpend⟩ := registersInv_iff.mp h
  refine registersInv_iff.mpr ⟨by rwa [mainStep_cfg], fun x => ?_, tickEnabledInRun_mainStep hen, fun hp => ?_⟩
  · simpa using hcnt x
  · exact mainStep_tickEn_of_tickEn (hpend (by simpa using hp))

/-- Settles O48: each operation of the step relation keeps the invariant; the input levels and the moves are not in it. -/
theorem registerInvariantIsKept : Obligations.RegisterInvariantIsKept := fun _ _ hs h =>
  step_keeps (P := RegistersInv) (moves := fun _ _ hs => hs) (reset := fun _ => registersInv_applyReset)
    (sens := fun _ _ hs => hs) (pins := fun _ _ _ hs => hs) (tickreq := fun _ => registersInv_requestTick)
    (tick := fun _ _ => registersInv_takeTick) (main := fun _ _ => registersInv_mainStep) hs h

/-! ### Quiet outside the RUN phase (10_state.md R39 item 8) -/

theorem quietOutsideRun_applyReset (s : State) : QuietOutsideRun (applyReset s) := fun _ => ⟨rfl, rfl, rfl, rfl, rfl⟩

/-- Outside RUN a request finds TICK_EN at 0 and is dropped. -/
theorem quietOutsideRun_requestTick {s : State} (h : QuietOutsideRun s) : QuietOutsideRun (requestTick s) := by
  intro hp
  rw [requestTick_phase] at hp
  obtain ⟨-, -, -, hen, -⟩ := h hp
  rw [requestTick_of_disabled hen]
  exact h hp

/-- Outside RUN no tick is pending, so none is dispatched there. -/
theorem quietOutsideRun_takeTick {s : State} (hd : dispatchEnabled s = true) (h : QuietOutsideRun s) :
    QuietOutsideRun (takeTick s) := by
  intro hp
  obtain ⟨-, -, -, -, hpend⟩ := h hp
  rw [tickPend_of_dispatchEnabled hd] at hpend
  exact nomatch hpend

/-- Outside RUN the MAIN steps that stay outside are CFGRD into HALT, which writes POL and SEQ, and IDLE, which
changes nothing. -/
theorem quietOutsideRun_mainStep {s : State} (h : QuietOutsideRun s) : QuietOutsideRun (mainStep s) := by
  cases hp : s.phase with
  | boot =>
    have hq := h (by simp [hp])
    rw [mainStep_of_boot hp]
    split
    · exact fun _ => hq
    · exact fun hrun => absurd rfl hrun
  | run => exact fun hrun => absurd (mainStep_phase_of_run hp) hrun
  | halt => rwa [mainStep_of_halt hp]

/-- Settles O49: each operation of the step relation keeps BOOT and HALT quiet. -/
theorem quietOutsideRunIsKept : Obligations.QuietOutsideRunIsKept := fun _ _ hs h =>
  step_keeps (P := QuietOutsideRun) (moves := fun _ _ hs => hs) (reset := fun s _ => quietOutsideRun_applyReset s)
    (sens := fun _ _ hs => hs) (pins := fun _ _ _ hs => hs) (tickreq := fun _ => quietOutsideRun_requestTick)
    (tick := fun _ => quietOutsideRun_takeTick) (main := fun _ _ => quietOutsideRun_mainStep) hs h

/-! ### What MAIN leaves alone (10_state.md R37) -/

/-- Settles O43: a micro-operation is a MAIN step, and `mainStep_frame` says what no MAIN step writes. -/
theorem mainNeverWritesTheInterruptsState : Obligations.MainNeverWritesTheInterruptsState := by
  intro q s t h
  rw [exec_seqInstr] at h
  cases h
  simpa using mainStep_frame (s.setSeq q)

/-! ### The duties of the reference table (10_state.md R39 item 9) -/

/-- The duties of the reference command table (41_steering.md R135); none is 0, which only RESET writes. -/
theorem reference_duty (q : Steering) (x : Side) :
    (sideCommand (commandOf CmdTable.reference q) x).duty = 3 ∨ (sideCommand (commandOf CmdTable.reference q) x).duty = 4 ∨
      (sideCommand (commandOf CmdTable.reference q) x).duty = 7 := by
  cases q <;> cases x <;> decide

theorem referenceDuties_applyReset {s : State} (h : ReferenceDuties s) : ReferenceDuties (applyReset s) := by
  obtain ⟨htable, -⟩ := h
  exact ⟨htable, fun x => .inl (by rw [applyReset_side]; rfl)⟩

theorem referenceDuties_mainStep {s : State} (h : ReferenceDuties s) : ReferenceDuties (mainStep s) := by
  obtain ⟨htable, hduty⟩ := h
  refine ⟨by rwa [mainStep_cfg], fun x => ?_⟩
  rcases mainStep_duty s x with hkept | hwritten
  · rw [hkept]
    exact hduty x
  · rw [hwritten, commandFor, htable]
    exact .inr (reference_duty s.steer x)

/-- Settles O50: a duty is written by RESET, with 0, and by MAIN, from the table; a tick only reads it. -/
theorem referenceDutiesAreKept : Obligations.ReferenceDutiesAreKept := fun _ _ hs h =>
  step_keeps (P := ReferenceDuties) (moves := fun _ _ hs => hs) (reset := fun _ => referenceDuties_applyReset)
    (sens := fun _ _ hs => hs) (pins := fun _ _ _ hs => hs)
    (tickreq := fun _ hs => by simpa [ReferenceDuties] using hs)
    (tick := fun _ _ hs => by simpa [ReferenceDuties] using hs) (main := fun _ _ => referenceDuties_mainStep) hs h

/-! ### The parameters (10_state.md R21) and the reset values (R38) -/

/-- Settles O52: every operation of the step relation leaves the parameters it finds. -/
theorem noStepWritesAParameter : Obligations.NoStepWritesAParameter := fun s _ h =>
  step_keeps (P := fun u => u.cfg = s.cfg) (moves := fun _ _ hu => hu) (reset := fun _ hu => hu)
    (sens := fun _ _ hu => hu) (pins := fun _ _ _ hu => hu) (tickreq := fun u hu => (requestTick_cfg u).trans hu)
    (tick := fun _ _ hu => hu) (main := fun u _ hu => (mainStep_cfg u).trans hu) rfl h

/-- At power-up every output pin is low: each latch is at the value whose pins show 0b00. -/
theorem powerUp_outPin (c : Config) (g : OutSignal) : (State.powerUp c).outPin g = 0b00 := by
  cases g <;> rfl

/-- Settles O47: the registers as the definition of power-up gives them, and the pins by `powerUp_outPin`. -/
theorem powerUpHasTheResetValues : Obligations.PowerUpHasTheResetValues := fun c =>
  ⟨rfl, rfl, rfl, rfl, rfl, rfl, rfl, powerUp_outPin c⟩

end Sys2Proof.Machine

/-! # The memory: who reads the input pins, and the command a tick sees (20_memory.md) -/

namespace Sys2Proof.Machine

/-! ### The input pins are read by SENSE and CFGRD alone (20_memory.md R57) -/

/-- A MAIN step other than SENSE does not look at SENS_RAW: of the rest only CFGRD reads a pin, and not this one. -/
theorem mainStep_setSensRaw {s : State} (hseq : s.seq ≠ .sense) (v : Sens7) :
    mainStep (s.setSensRaw v) = (mainStep s).setSensRaw v := by
  unfold mainStep
  rw [State.setSensRaw_seq]
  cases h : s.seq
  case sense => exact absurd h hseq
  case cfgrd =>
    dsimp only
    rw [readConfiguration_eq, readConfiguration_eq, State.setSensRaw_cfgHalt]
    split <;> rfl
  case wrdirL | wrdutyL | wrdirR | wrdutyR | idle => rfl

/-- A MAIN step other than CFGRD does not look at the configuration pins. -/
theorem mainStep_setCfgPins {s : State} (hseq : s.seq ≠ .cfgrd) (h p : Bool) :
    mainStep (s.setCfgPins h p) = (mainStep s).setCfgPins h p := by
  unfold mainStep
  rw [State.setCfgPins_seq]
  cases hs : s.seq
  case cfgrd => exact absurd hs hseq
  case sense | wrdirL | wrdutyL | wrdirR | wrdutyR | idle => rfl

/-- Settles O17: each micro-operation is a MAIN step, and driving a pin group leaves SEQ alone. -/
theorem pinsAreReadOnlyBySenseAndCfgrd : Obligations.PinsAreReadOnlyBySenseAndCfgrd := by
  constructor
  · intro s t v hseq h
    rw [exec_seq_instr] at h
    cases h
    rw [← mainStep_setSensRaw hseq v]
    exact exec_seq_instr (s.setSensRaw v)
  · intro s t hl pl hseq h
    rw [exec_seq_instr] at h
    cases h
    rw [← mainStep_setCfgPins hseq hl pl]
    exact exec_seq_instr (s.setCfgPins hl pl)

/-! ### A command is torn only in a write window (20_memory.md R64, 60_exceptions.md R211) -/

/-- With CMD_ATOMIC a tick is dispatched only outside the write windows: inside them it is held. -/
theorem inWriteWindow_of_dispatchEnabled {s : State} (hatomic : s.cfg.cmdAtomic = true)
    (hd : dispatchEnabled s = true) : inWriteWindow s.seq = false := by
  simpa [dispatchEnabled, held, hatomic] using (Bool.and_eq_true_iff.mp hd).2

/-- Outside the write windows each side shows one command whole; at WRDIR.R the two sides may show different ones. -/
theorem sideShows_of_not_inWriteWindow {s : State} (hinv : DriverInv s) (hw : inWriteWindow s.seq = false) (x : Side) :
    ∃ q, SideShows s x q := by
  unfold DriverInv at hinv
  cases hseq : s.seq <;> rw [hseq] at hinv hw
  case cfgrd | idle => exact ⟨none, hinv x⟩
  case sense =>
    rcases hinv with hnone | hshown
    · exact ⟨none, hnone x⟩
    · exact ⟨some s.steer, hshown x⟩
  case wrdirL =>
    obtain ⟨old, hold⟩ := hinv
    exact ⟨old, hold x⟩
  case wrdirR =>
    obtain ⟨hleft, old, hright⟩ := hinv
    cases x
    · exact ⟨some s.steer, hleft⟩
    · exact ⟨old, hright⟩
  case wrdutyL | wrdutyR => exact nomatch hw

/-- Settles O31: the hold keeps DISPATCH out of the windows in which a side is torn. -/
theorem atomicCommandIsNeverTorn : Obligations.AtomicCommandIsNeverTorn := fun _ hinv hatomic hd =>
  sideShows_of_not_inWriteWindow hinv (inWriteWindow_of_dispatchEnabled hatomic hd)

end Sys2Proof.Machine

/-! # The encodings and the stimulus trace (30_encoding.md)

First bits: a word is its fields, and a mask that keeps a field compares it. With them the decoder of stimulus words is
said once, by kind and argument; then the other formats, and the words as the machine runs them. -/

namespace Sys2Proof

/-! ### Fields of a word, and masks over them -/

/-- A word is its high and its low field, one after the other. -/
theorem eq_append_iff {w n : Nat} {x : BitVec (w + n)} {hi : BitVec w} {lo : BitVec n} :
    x = hi ++ lo ↔ x.extractLsb' n w = hi ∧ x.extractLsb' 0 n = lo := by
  constructor
  · rintro rfl
    exact ⟨BitVec.extractLsb'_append_eq_left, BitVec.extractLsb'_append_eq_right⟩
  · rintro ⟨rfl, rfl⟩
    exact BitVec.extractLsb'_append_extractLsb'.symm

/-- A mask with ones over the high field and zeros over the low one compares the high field. -/
theorem and_highMask_eq_iff {w n : Nat} {x : BitVec (w + n)} {hi : BitVec w} :
    x &&& (BitVec.allOnes w ++ 0#n) = hi ++ 0#n ↔ x.extractLsb' n w = hi := by
  have hx : x = x.extractLsb' n w ++ x.extractLsb' 0 n := eq_append_iff.mpr ⟨rfl, rfl⟩
  rw [hx, BitVec.and_append, BitVec.and_allOnes, BitVec.and_zero, BitVec.append_left_inj, ← hx]

/-- A stimulus word is its kind and its argument (30_encoding.md R81). -/
theorem stim10_eq_iff {w : Stim10} {k : BitVec 3} {a : Sens7} : w = k ++ a ↔ stimKind w = k ∧ stimArg w = a :=
  eq_append_iff (w := 3) (n := 7)

@[simp] theorem stimKind_append (k : BitVec 3) (a : Sens7) : stimKind (k ++ a) = k :=
  BitVec.extractLsb'_append_eq_left

@[simp] theorem stimArg_append (k : BitVec 3) (a : Sens7) : stimArg (k ++ a) = a :=
  BitVec.extractLsb'_append_eq_right

/-- The eight bits above the two configuration levels are the kind and argument bits 6:2. -/
theorem stim10_bits9_2_eq_iff {w : Stim10} {k : BitVec 3} {z : BitVec 5} :
    w.extractLsb' 2 8 = k ++ z ↔ stimKind w = k ∧ (stimArg w).extractLsb' 2 5 = z := by
  have hk : (w.extractLsb' 2 8).extractLsb' 5 3 = stimKind w := by
    ext i hi; simp [stimKind, show 5 + i < 8 by omega, show 2 + (5 + i) = 7 + i by omega]
  have hz : (w.extractLsb' 2 8).extractLsb' 0 5 = (stimArg w).extractLsb' 2 5 := by
    ext i hi; simp [stimArg, show i < 8 by omega]
  rw [eq_append_iff (w := 3) (n := 5), hk, hz]

/-! ### The decoder of stimulus words (R81) -/

/-- A stimulus row without operands (STEP, TICK, RST) selects its own word alone. -/
theorem selects_stim10_word (k : BitVec 3) (a : Sens7) (i : Instr) (w : Stim10) :
    (Row.plain .stim10 0x3FF (k ++ a) i).selects ⟨.stim10, w⟩ = true ↔ stimKind w = k ∧ stimArg w = a := by
  have hmask : w &&& 0x3FF#10 = w := BitVec.and_allOnes
  simp [Row.selects, Row.plain, hmask, ← stim10_eq_iff]

/-- The row SENS selects the words of its kind. -/
theorem selects_stim10_kind (k : BitVec 3) (build : Stim10 → Instr) (w : Stim10) :
    (Row.mk .stim10 0x380 (k ++ 0#7) build).selects ⟨.stim10, w⟩ = true ↔ stimKind w = k := by
  rw [stimKind, ← and_highMask_eq_iff (w := 3) (n := 7)]
  simp [Row.selects]

/-- The row CFG selects the words of its kind whose argument bits 6:2 are zero. -/
theorem selects_stim10_cfg (k : BitVec 3) (z : BitVec 5) (build : Stim10 → Instr) (w : Stim10) :
    (Row.mk .stim10 0x3FC ((k ++ z : BitVec 8) ++ 0#2) build).selects ⟨.stim10, w⟩ = true ↔
      stimKind w = k ∧ (stimArg w).extractLsb' 2 5 = z := by
  rw [← stim10_bits9_2_eq_iff, ← and_highMask_eq_iff (w := 8) (n := 2)]
  simp [Row.selects]

/-- The decoder on a code that fits its format: the first row that selects it, or the format's rejection. -/
theorem decode_of_fits {c : Code} (h : c.bits.toNat < 2 ^ c.sel.width) :
    decode c = ((rowsOf c.sel).find? (·.selects c)).elim (.error c.sel.rejection) fun r => .ok (r.build c.bits) := by
  rw [decode, if_pos h]
  cases (rowsOf c.sel).find? (·.selects c) <;> rfl

/-- Looking a row up tries the first row and then the others. -/
theorem elim_find?_cons {α β : Type} (p : α → Bool) (f : α → β) (e : β) (r : α) (rs : List α) :
    ((r :: rs).find? p).elim e f = if p r = true then f r else (rs.find? p).elim e f := by
  rw [List.find?_cons]
  cases p r <;> rfl

/-- The rows of format STIM10 with their patterns cut into kind and argument. -/
theorem stimRows_eq :
    stimRows =
      [.plain .stim10 0x3FF (0b000#3 ++ 0#7) .step, .plain .stim10 0x3FF (0b001#3 ++ 0#7) .tick,
       ⟨.stim10, 0x380, 0b010#3 ++ 0#7, fun w => .sens (stimArg w)⟩,
       ⟨.stim10, 0x3FC, (0b011#3 ++ 0#5 : BitVec 8) ++ 0#2, fun w => .cfg (w.getLsbD 1) (w.getLsbD 0)⟩,
       .plain .stim10 0x3FF (0b111#3 ++ 0#7) .rst] := rfl

/-- The stimulus format as 30_encoding.md R81 tells it: by the kind of a word and its argument. -/
theorem decodeStim_eq (w : Stim10) :
    decodeStim w =
      if stimKind w = 0b000 ∧ stimArg w = 0 then .ok .step
      else if stimKind w = 0b001 ∧ stimArg w = 0 then .ok .tick
      else if stimKind w = 0b010 then .ok (.sens (stimArg w))
      else if stimKind w = 0b011 ∧ (stimArg w).extractLsb' 2 5 = 0 then .ok (.cfg (w.getLsbD 1) (w.getLsbD 0))
      else if stimKind w = 0b111 ∧ stimArg w = 0 then .ok .rst
      else .error .illFormedStimulus := by
  rw [decodeStim, decode_of_fits w.isLt, rowsOf, stimRows_eq]
  simp only [elim_find?_cons, selects_stim10_word, selects_stim10_kind, selects_stim10_cfg]
  rfl

/-- The two configuration levels are the two lowest bits of a word. -/
theorem ofBool_append_ofBool : ∀ x : BitVec 2, BitVec.ofBool (x.getLsbD 1) ++ BitVec.ofBool (x.getLsbD 0) = x := by
  decide

/-- Encoding the stimulus a word decodes to gives the word back. -/
theorem encode_of_decodeStim {w : Stim10} {i : Instr} (h : decodeStim w = .ok i) : encode i = ⟨.stim10, w⟩ := by
  rw [decodeStim_eq] at h
  split_ifs at h with hstep htick hsens hcfg hrst <;> cases h
  · exact congrArg (Code.mk .stim10) (stim10_eq_iff.mpr hstep).symm
  · exact congrArg (Code.mk .stim10) (stim10_eq_iff.mpr htick).symm
  · exact congrArg (Code.mk .stim10) (stim10_eq_iff.mpr ⟨hsens, rfl⟩).symm
  · have hlow : w.extractLsb' 0 2 = BitVec.ofBool (w.getLsbD 1) ++ BitVec.ofBool (w.getLsbD 0) := by
      rw [← ofBool_append_ofBool (w.extractLsb' 0 2)]
      simp
    have hhigh : w.extractLsb' 2 8 = 0b01100000#8 := stim10_bits9_2_eq_iff.mpr hcfg
    exact congrArg (Code.mk .stim10) ((eq_append_iff (w := 8) (n := 2)).mpr ⟨hhigh, hlow⟩).symm
  · exact congrArg (Code.mk .stim10) (stim10_eq_iff.mpr hrst).symm

/-- Settles O2: the conditions are those under which the decoder's equation answers an instruction. -/
theorem stimulusWordsDecodeExactlyWhenWellFormed : Obligations.StimulusWordsDecodeExactlyWhenWellFormed := by
  refine fun w => ⟨?_, fun _ => encode_of_decodeStim⟩
  rw [decodeStim_eq]
  constructor
  · rintro ⟨i, h⟩
    split_ifs at h with hstep htick hsens hcfg hrst
    exacts [.inl hstep, .inr (.inl htick), .inr (.inr (.inl hsens)), .inr (.inr (.inr (.inl hcfg))),
      .inr (.inr (.inr (.inr hrst)))]
  · rintro (h | h | h | h | h) <;> simp [h]

/-- Settles O1: SENS and CFG carry operands, which the equation of the decoder reads back; every other instruction is
one row of its table, found there. -/
theorem decodeOfEncodeIsTheInstruction : Obligations.DecodeOfEncodeIsTheInstruction := by
  intro i
  cases i with
  | sens v =>
    show decodeStim (0b010#3 ++ v) = _
    simp [decodeStim_eq]
  | cfg h p => cases h <;> cases p <;> rfl
  | _ => rfl

/-- Settles O4: a word of a reserved kind meets none of the conditions of the decoder's equation. -/
theorem reservedCodesAreRefused : Obligations.ReservedCodesAreRefused := by
  refine ⟨rfl, rfl, rfl, rfl, rfl, fun w hkind => ?_⟩
  rw [decodeStim_eq]
  rcases hkind with h | h | h <;> simp [h]

/-! ### The codes of SEQ and STATE (R73, R74, R76), and words written out -/

/-- The code of a micro-operation is the code of the sequencer step that names it. -/
theorem encode_seqInstr (q : SeqStep) : encode q.instr = ⟨.seq3, q.code.setWidth 10⟩ := by cases q <;> rfl

/-- The code of a command row is the code of the steering state that selects it. -/
theorem encode_cmdRow (q : Steering) : encode q.cmdRow = ⟨.st3, q.code.setWidth 10⟩ := by cases q <;> rfl

theorem SeqStep.ofCode_code (q : SeqStep) : SeqStep.ofCode q.code = some q := by cases q <;> rfl

theorem Steering.ofCode_code (q : Steering) : Steering.ofCode q.code = some q := by cases q <;> rfl

/-- Settles O5: the codes decode as the encodings of the instructions they name, and of the eight codes of each format
one is no value. -/
theorem stateAndSequencerCodesNameTheirRows : Obligations.StateAndSequencerCodesNameTheirRows := by
  refine ⟨fun q => ⟨q.ofCode_code, ?_⟩, fun q => ⟨q.ofCode_code, ?_⟩, by decide, by decide⟩
  · rw [← encode_seqInstr]
    exact decodeOfEncodeIsTheInstruction q.instr
  · rw [← encode_cmdRow]
    exact decodeOfEncodeIsTheInstruction q.cmdRow

/-- Settles O7: six of the words are what the encoder writes; that of CLS.HARDLEFT has a don't-care bit set. -/
theorem writtenOutWordsDecode : Obligations.WrittenOutWordsDecode :=
  have round := decodeOfEncodeIsTheInstruction
  ⟨round .wrdirL, rfl, round .cmdLostleft, round .dispatch, round .tickreq, round (.sens 0b0010000),
    round (.cfg true false)⟩

/-! ### The packed command (R79) -/

/-- The direction bit of a packed command. -/
def dirBit : Dir → BitVec 1
  | .forward => 0
  | .backward => 1

theorem MotorCommand.pack_eq (m : MotorCommand) : m.pack = dirBit m.dir ++ m.duty := by
  rcases m with ⟨_ | _, duty⟩ <;> rfl

/-- The direction bit of a packed command is bit 8. -/
theorem MotorCommand.pack_bit8 (m : MotorCommand) : m.pack.getLsbD 8 = true ↔ m.dir = .backward := by
  rw [m.pack_eq, BitVec.getLsbD_append]
  cases m.dir <;> simp [dirBit]

theorem MotorCommand.pack_duty (m : MotorCommand) : m.pack.extractLsb' 0 8 = m.duty := by
  rw [m.pack_eq]
  exact BitVec.extractLsb'_append_eq_right

/-- Settles O6: a packed command is its direction bit and its duty, and these two fields are the whole of a CMD9 value. -/
theorem packedCommandRoundTrips : Obligations.PackedCommandRoundTrips := by
  refine ⟨fun m => ⟨?_, m.pack_bit8, m.pack_duty⟩, fun w => ?_⟩
  · unfold MotorCommand.unpack
    rw [m.pack_duty]
    simp only [m.pack_bit8]
    rcases m with ⟨_ | _, duty⟩ <;> rfl
  · rw [MotorCommand.pack_eq]
    refine ((eq_append_iff (w := 1) (n := 8)).mpr ⟨?_, rfl⟩).symm
    have hbit : w.extractLsb' 8 1 = BitVec.ofBool (w.getLsbD 8) := by
      ext i hi; simp [show i = 0 by omega]
    rw [hbit, MotorCommand.unpack]
    cases w.getLsbD 8 <;> rfl

/-! ### The rows of SENSE (R75) -/

/-- Settles O3: the table is finite, and each of the 128 vectors is tried against the eight rows. -/
theorem everyActivityVectorSelectsOneRow : Obligations.EveryActivityVectorSelectsOneRow := by
  unfold Obligations.EveryActivityVectorSelectsOneRow
  constructor <;> decide

/-- A code of a narrower format keeps what a mask of that format says when it is widened. -/
theorem setWidth_and_eq_iff {a m b : Sens7} :
    a.setWidth 10 &&& m.setWidth 10 = b.setWidth 10 ↔ a &&& m = b := by
  rw [← BitVec.setWidth_and]
  constructor
  · intro h
    simpa using congrArg (BitVec.setWidth 7) h
  · exact congrArg _

/-- A reading decodes to a row that selects it: some row does, and the first such is taken. -/
theorem decode_sens7 (a : Sens7) :
    ∃ r ∈ clsRows, r.selects ⟨.sens7, a.setWidth 10⟩ = true ∧ decode ⟨.sens7, a.setWidth 10⟩ = .ok (r.build (a.setWidth 10)) := by
  have hfits : (a.setWidth 10).toNat < 2 ^ 7 := by
    rw [BitVec.toNat_setWidth_of_le (by decide)]
    exact a.isLt
  obtain ⟨hone, -⟩ := everyActivityVectorSelectsOneRow
  have hsome : (clsRows.find? (·.selects ⟨.sens7, a.setWidth 10⟩)).isSome := by
    obtain ⟨r, hr⟩ := List.length_pos_iff_exists_mem.mp ((hone a).symm ▸ Nat.one_pos)
    exact List.find?_isSome.mpr ⟨r, List.mem_filter.mp hr⟩
  obtain ⟨r, hr⟩ := Option.isSome_iff_exists.mp hsome
  refine ⟨r, List.mem_of_find?_eq_some hr, by simpa using List.find?_some hr, ?_⟩
  rw [decode_of_fits hfits, rowsOf, hr, Option.elim_some]

end Sys2Proof

namespace Sys2Proof.Machine

/-! ### The classification, mask by mask (41_steering.md R122 to R129) -/

theorem and_mask_centered : ∀ a : Sens7, a &&& 0x08 = 0x08 ↔ a.getLsbD 3 = true := by decide

theorem and_mask_softLeft : ∀ a : Sens7, a &&& 0x18 = 0x10 ↔ a.getLsbD 3 = false ∧ a.getLsbD 4 = true := by decide

theorem and_mask_softRight : ∀ a : Sens7,
    a &&& 0x1C = 0x04 ↔ a.getLsbD 3 = false ∧ a.getLsbD 4 = false ∧ a.getLsbD 2 = true := by decide

theorem and_mask_hardLeft : ∀ a : Sens7,
    a &&& 0x3C = 0x20 ↔ a.getLsbD 3 = false ∧ a.getLsbD 4 = false ∧ a.getLsbD 2 = false ∧ a.getLsbD 5 = true := by decide

theorem and_mask_hardRight : ∀ a : Sens7,
    a &&& 0x3E = 0x02 ↔ a.getLsbD 3 = false ∧ a.getLsbD 4 = false ∧ a.getLsbD 2 = false ∧ a.getLsbD 5 = false ∧
      a.getLsbD 1 = true := by decide

theorem and_mask_lostLeft : ∀ a : Sens7,
    a &&& 0x7E = 0x40 ↔ a.getLsbD 3 = false ∧ a.getLsbD 4 = false ∧ a.getLsbD 2 = false ∧ a.getLsbD 5 = false ∧
      a.getLsbD 1 = false ∧ a.getLsbD 6 = true := by decide

/-- A classification row that the reading selects does what SENSE does, where the row's state is the one the
priority chain gives. -/
theorem exec_row_eq_setSteer_classify {s : State} {i : Instr} {m b : Sens7} {q : Steering}
    (hrow : exec i s = .next (classRow m b q s))
    (hsel : (Row.plain .sens7 (m.setWidth 10) (b.setWidth 10) i).selects ⟨.sens7, (activityOf s).setWidth 10⟩ = true)
    (hq : activityOf s &&& m = b → classify s.steer (activityOf s) = q) :
    exec i s = .next (s.setSteer (classify s.steer (activityOf s))) := by
  have hmask : activityOf s &&& m = b := by
    simpa [Row.selects, Row.plain, setWidth_and_eq_iff] using hsel
  rw [hrow, classRow, if_pos hmask, hq hmask]

/-- Every row of the table that the reading selects does what SENSE does before it moves SEQ. -/
theorem exec_clsRow {s : State} {r : Row} (hr : r ∈ clsRows)
    (hsel : r.selects ⟨.sens7, (activityOf s).setWidth 10⟩ = true) :
    exec (r.build ((activityOf s).setWidth 10)) s = .next (s.setSteer (classify s.steer (activityOf s))) := by
  simp only [clsRows, List.mem_cons, List.not_mem_nil, or_false] at hr
  rcases hr with rfl | rfl | rfl | rfl | rfl | rfl | rfl | rfl
  · exact exec_row_eq_setSteer_classify (m := 0x08) (b := 0x08) rfl hsel fun h => by
      simp only [classify, (and_mask_centered _).mp h]; rfl
  · exact exec_row_eq_setSteer_classify (m := 0x18) (b := 0x10) rfl hsel fun h => by
      simp only [classify, (and_mask_softLeft _).mp h]; rfl
  · exact exec_row_eq_setSteer_classify (m := 0x1C) (b := 0x04) rfl hsel fun h => by
      simp only [classify, (and_mask_softRight _).mp h]; rfl
  · exact exec_row_eq_setSteer_classify (m := 0x3C) (b := 0x20) rfl hsel fun h => by
      simp only [classify, (and_mask_hardLeft _).mp h]; rfl
  · exact exec_row_eq_setSteer_classify (m := 0x3E) (b := 0x02) rfl hsel fun h => by
      simp only [classify, (and_mask_hardRight _).mp h]; rfl
  · exact exec_row_eq_setSteer_classify (m := 0x7E) (b := 0x40) rfl hsel fun h => by
      simp only [classify, (and_mask_lostLeft _).mp h]; rfl
  · exact exec_row_eq_setSteer_classify (m := 0x7F) (b := 0x01) rfl hsel fun h => by
      rw [show activityOf s = 0x01 from BitVec.and_allOnes.symm.trans h]; rfl
  · exact exec_row_eq_setSteer_classify (m := 0x7F) (b := 0x00) rfl hsel fun h => by
      rw [show activityOf s = 0 from BitVec.and_allOnes.symm.trans h]; exact classify_zero _

/-- Settles O19: the reading decodes to a row that selects it, and such a row does what SENSE does. -/
theorem senseIsTheRowItsReadingSelects : Obligations.SenseIsTheRowItsReadingSelects := by
  intro s
  obtain ⟨r, hr, hsel, hdecode⟩ := decode_sens7 (activityOf s)
  exact ⟨_, _, hdecode, exec_clsRow hr hsel, rfl⟩

/-! ### The command rows (R76) -/

/-- A command row taken by itself is `commandRow` of its state (log 5). -/
theorem exec_cmdRow (q : Steering) (s : State) : exec q.cmdRow s = .next (commandRow q s) := by cases q <;> rfl

/-- Settles O24: the row writes its four fields where its state is STATE. -/
theorem commandRowsIssueTheirCommand : Obligations.CommandRowsIssueTheirCommand := by
  intro s q
  rw [exec_cmdRow, commandRow]
  split <;> rfl

/-! ### The words as the machine runs them (R81) -/

/-- Where DISPATCH is enabled it is what a STEP or a TICK word ends with. -/
theorem exec_dispatch_of_enabled {s : State} (h : dispatchEnabled s = true) :
    exec .dispatch s = .next (dispatchIfEnabled s) := by
  rw [dispatchIfEnabled, if_pos h]; rfl

/-- Where DISPATCH is not enabled a STEP or a TICK word ends without it. -/
theorem dispatchIfEnabled_of_disabled {s : State} (h : dispatchEnabled s = false) : dispatchIfEnabled s = s := by
  simp [dispatchIfEnabled, h]

/-- Settles O53: STEP and TICK are MAIN's step and a request, each followed by DISPATCH where it is enabled. -/
theorem stimulusWordsDoWhatTheySay : Obligations.StimulusWordsDoWhatTheySay := fun s =>
  ⟨⟨mainStep s, _, exec_seq_instr s, rfl, exec_dispatch_of_enabled, dispatchIfEnabled_of_disabled⟩,
    ⟨requestTick s, _, rfl, rfl, exec_dispatch_of_enabled, dispatchIfEnabled_of_disabled⟩,
    fun _ => rfl, fun _ _ => rfl⟩

theorem dispatchEnabled_of_not_tickPend {s : State} (h : s.tickPend = false) : dispatchEnabled s = false := by
  simp [dispatchEnabled, h]

theorem dispatchIfEnabled_setMoves (s : State) (ms : List Move) :
    dispatchIfEnabled (s.setMoves ms) = (dispatchIfEnabled s).setMoves ms := by
  unfold dispatchIfEnabled
  rw [dispatchEnabled_setMoves]
  split <;> rfl

/-- The next step runs the stimulus word in front, but for a STEP that waits for a DISPATCH. -/
theorem step_stim {s : State} {w : Stim10} {rest : List Move} {i : Instr} (hmoves : s.moves = .stim w :: rest)
    (hdecode : decodeStim w = .ok i) (hwait : i = .step → dispatchEnabled s = false) :
    step s = exec i (s.setMoves rest) := by
  have hfetch : fetch s = .ok (i, rest) := by
    rw [fetch, hmoves]
    cases i with
    | step => simp [fetchMove, hdecode, hwait rfl]
    | _ => simp only [fetchMove, hdecode]
  rw [step, hfetch]

/-- A run goes on from the state its first step leaves. -/
theorem core_run_succ {M : Host.Core} {s t : M.State} (h : M.step s = .next t) (k : Nat) :
    M.run (k + 1) s = M.run k t := by
  rw [Host.Core.run, h]

/-- A trace runs its first word and goes on with the others. -/
theorem run_word (i : Instr) {s t : State} {ws : List Stim10} (hsel : (encode i).sel = .stim10)
    (hwait : i = .step → dispatchEnabled s = false) (hexec : exec i (s.withTrace ws) = .next (t.withTrace ws)) (k : Nat) :
    Sys2Proof.core.run (k + 1) (s.withTrace ((encode i).bits :: ws)) = Sys2Proof.core.run k (t.withTrace ws) := by
  have hdecode : decodeStim (encode i).bits = .ok i := by
    rw [decodeStim, ← hsel]
    exact decodeOfEncodeIsTheInstruction i
  have hstep : step (s.withTrace ((encode i).bits :: ws)) = exec i (s.withTrace ws) :=
    step_stim (rest := ws.map .stim) (s := s.withTrace ((encode i).bits :: ws)) rfl hdecode hwait
  exact core_run_succ (M := Sys2Proof.core) (hstep.trans hexec) k

/-- A STEP word that need not wait is a step of MAIN and, where it is then enabled, DISPATCH. -/
theorem run_step_word {s : State} (h : dispatchEnabled s = false) (ws : List Stim10) (k : Nat) :
    Sys2Proof.core.run (k + 1) (s.withTrace ((encode .step).bits :: ws)) =
      Sys2Proof.core.run k ((dispatchIfEnabled (mainStep s)).withTrace ws) :=
  run_word .step rfl (fun _ => h) (by
    show Host.Outcome.next (dispatchIfEnabled (mainStep (s.setMoves (ws.map .stim)))) = _
    rw [mainStep_setMoves, dispatchIfEnabled_setMoves]; rfl) k

theorem run_tick_word (s : State) (ws : List Stim10) (k : Nat) :
    Sys2Proof.core.run (k + 1) (s.withTrace ((encode .tick).bits :: ws)) =
      Sys2Proof.core.run k ((dispatchIfEnabled (requestTick s)).withTrace ws) :=
  run_word .tick rfl (fun h => nomatch h) (by
    show Host.Outcome.next (dispatchIfEnabled (requestTick (s.setMoves (ws.map .stim)))) = _
    rw [requestTick_setMoves, dispatchIfEnabled_setMoves]; rfl) k

theorem run_cfg_word (s : State) (h p : Bool) (ws : List Stim10) (k : Nat) :
    Sys2Proof.core.run (k + 1) (s.withTrace ((encode (.cfg h p)).bits :: ws)) =
      Sys2Proof.core.run k ((s.setCfgPins h p).withTrace ws) :=
  run_word (.cfg h p) rfl (fun h => nomatch h) rfl k

theorem run_rst_word (s : State) (ws : List Stim10) (k : Nat) :
    Sys2Proof.core.run (k + 1) (s.withTrace ((encode .rst).bits :: ws)) =
      Sys2Proof.core.run k ((applyReset s).withTrace ws) :=
  run_word .rst rfl (fun h => nomatch h) rfl k

/-! ### The pseudo-operations (R82) -/

/-- With no tick pending, STEP words are steps of MAIN. -/
theorem run_step_words (n : Nat) {s : State} (h : s.tickPend = false) :
    Sys2Proof.core.run n (s.withTrace (List.replicate n (encode .step).bits)) = .next ((mainStep^[n] s).withTrace []) := by
  induction n generalizing s with
  | zero => rfl
  | succ n ih =>
    have hmain : (mainStep s).tickPend = false := (mainStep_tickPend s).trans h
    rw [List.replicate_succ, run_step_word (dispatchEnabled_of_not_tickPend h),
      dispatchIfEnabled_of_disabled (dispatchEnabled_of_not_tickPend hmain), ih hmain, Function.iterate_succ_apply]

/-- One iteration from SENSE is SENSE and then the command row of the state it wrote. -/
theorem mainStep_iterate_of_sense {s : State} (h : s.seq = .sense) :
    mainStep^[5] s =
      (issueCommand (commandOf s.cfg.cmdTable (senseAndClassify s).steer) (senseAndClassify s)).setSeq .sense := by
  have hsense : mainStep s = senseAndClassify s := by rw [mainStep, h]
  rw [Function.iterate_succ_apply, hsense]
  rfl

/-- Once the command of a state is issued, both sides show it. -/
theorem driverShows_issueCommand (q : Steering) (s : State) :
    DriverShows (issueCommand (commandOf s.cfg.cmdTable q) s) (some q) := fun x => by
  cases x <;> exact ⟨rfl, rfl⟩

/-- Settles O54: the five words are SENSE and the four writes. -/
theorem loopTraceRunsOneIteration : Obligations.LoopTraceRunsOneIteration := by
  intro s hseq hpend
  refine ⟨List.replicate 5 (encode .step).bits, (mainStep^[5] s).withTrace [], ?_, run_step_words 5 hpend, rfl, ?_⟩
  · simp [expand, Pseudo.legal, hseq]
  · rw [mainStep_iterate_of_sense hseq]
    exact ⟨rfl, rfl, driverShows_issueCommand _ (senseAndClassify s)⟩

/-- Settles O55: RST, the pins, and CFGRD by the level on CFG_HALT. -/
theorem bootTraceReadsTheConfiguration : Obligations.BootTraceReadsTheConfiguration := by
  intro s h p
  have hrun : Sys2Proof.core.run 3 (s.withTrace [(encode .rst).bits, (encode (.cfg h p)).bits, (encode .step).bits]) =
      .next ((mainStep ((applyReset s).setCfgPins h p)).withTrace []) := by
    rw [run_rst_word, run_cfg_word]
    exact run_step_words 1 rfl
  refine ⟨_, _, rfl, hrun, rfl, ?_⟩
  rw [mainStep_of_boot rfl]
  cases h <;> exact ⟨rfl, rfl, rfl, rfl, rfl, rfl, rfl⟩

/-- A TICK word that finds the tick enabled and not held ticks both sides (60_exceptions.md R206, R208). -/
theorem dispatchIfEnabled_requestTick {s : State} (hen : s.tickEn = true) (hheld : held s = false) :
    dispatchIfEnabled (requestTick s) = takeTick s := by
  have hreq : requestTick s = s.setTickPend true := by rw [requestTick_eq, hen, Bool.true_or]
  have hd : dispatchEnabled (s.setTickPend true) = true := by
    rw [dispatchEnabled, show held (s.setTickPend true) = held s from rfl, hheld]; rfl
  rw [hreq, dispatchIfEnabled, if_pos hd]
  rfl

/-- TICK words, where ticks are enabled and not held, are ticks of both sides and leave the rest alone. -/
theorem run_tick_words (n : Nat) {s : State} (hen : s.tickEn = true) (hpend : s.tickPend = false) (hheld : held s = false) :
    Sys2Proof.core.run n (s.withTrace (List.replicate n (encode .tick).bits)) = .next
      { s with left := ticked s.cfg.period n s.left, right := ticked s.cfg.period n s.right, moves := [] } := by
  induction n generalizing s with
  | zero => rfl
  | succ n ih =>
    rw [List.replicate_succ, run_tick_word, dispatchIfEnabled_requestTick hen hheld]
    refine (ih (s := takeTick s) hen rfl hheld).trans ?_
    simp [ticked, hpend]

/-- Settles O56: the n words of the trace are n ticks. -/
theorem ticksTraceTicksEachSideNTimes : Obligations.TicksTraceTicksEachSideNTimes := fun _ n hen hpend hheld =>
  ⟨List.replicate n (encode .tick).bits, rfl, run_tick_words n hen hpend hheld⟩

end Sys2Proof.Machine

/-! # The PWM generator (40_pwm.md)

One tick, then n ticks of a side: the counter goes round modulo PERIOD and the duty is held, so tick number k compares
(start + k) mod PERIOD with the duty, and how many of those are high is a count over one period. Last the two sides
together, whose counters a tick advances alike. -/

namespace Sys2Proof.Machine

/-! ### One tick (R101, R102, R104) -/

/-- The counter's next value, with the increment in 8 bits. -/
theorem nextCount_eq (p : Nat) (c : Word8) : nextCount p c = if p ≤ c.toNat + 1 then 0 else c + 1 := by
  have hsucc : BitVec.ofNat 8 (c.toNat + 1) = c + 1 := by simp [BitVec.ofNat_add]
  rw [nextCount, hsucc]

/-- One side's tick, written out: compare, count, leave the duty and the direction. -/
theorem SideRegs.pwmTick_eq (p : Nat) (r : SideRegs) :
    r.pwmTick p =
      { r with
        en := if r.cnt.toNat ≤ r.duty.toNat then .energized else .coast
        cnt := if p ≤ r.cnt.toNat + 1 then 0 else r.cnt + 1 } := by
  rw [SideRegs.pwmTick, nextCount_eq, enableLevel]

/-- PWMTICK.L ticks the left side. -/
theorem exec_pwmtickL (s : State) : exec .pwmtickL s = .next (s.setSide .left (s.left.pwmTick s.cfg.period)) := rfl

/-- PWMTICK.R ticks the right side. -/
theorem exec_pwmtickR (s : State) : exec .pwmtickR s = .next (s.setSide .right (s.right.pwmTick s.cfg.period)) := rfl

/-- DISPATCH takes the tick interrupt. -/
theorem exec_dispatch (s : State) : exec .dispatch s = .next (takeTick s) := rfl

/-- Settles O34: each instruction is `SideRegs.pwmTick` on its side, and the pins show the latch it writes. -/
theorem pwmTickComparesThenCounts : Obligations.PwmTickComparesThenCounts := by
  intro s
  refine ⟨?_, ?_, fun t h => ?_, fun t h => ?_⟩
  · rw [exec_pwmtickL, SideRegs.pwmTick_eq]; rfl
  · rw [exec_pwmtickR, SideRegs.pwmTick_eq]; rfl
  · rw [exec_pwmtickL] at h
    cases h
    exact enableLevel_code s.left.cnt s.left.duty
  · rw [exec_pwmtickR] at h
    cases h
    exact enableLevel_code s.right.cnt s.right.duty

/-- Settles O39: after DISPATCH a side's pair and counter are the next ones of its counter, its duty and PERIOD. -/
theorem enableDependsOnCounterAndDutyOnly : Obligations.EnableDependsOnCounterAndDutyOnly := by
  intro s s' t t' x h h' hperiod hcnt hduty
  rw [exec_dispatch] at h h'
  cases h
  cases h'
  rw [takeTick_side, takeTick_side, SideRegs.pwmTick_en, SideRegs.pwmTick_en, SideRegs.pwmTick_cnt,
    SideRegs.pwmTick_cnt, hperiod, hcnt, hduty]
  exact ⟨rfl, rfl⟩

/-! ### The counter and the level after n ticks (R103) -/

/-- Ticks of a side leave its duty alone (10_state.md R27). -/
@[simp] theorem ticked_duty (p n : Nat) (r : SideRegs) : (ticked p n r).duty = r.duty := by
  induction n generalizing r with
  | zero => rfl
  | succ n ih => exact ih (r.pwmTick p)

/-- From a counter in range, n ticks add n modulo PERIOD. -/
theorem ticked_cnt {p : Nat} (n : Nat) {r : SideRegs} (hp : p ≤ 255) (hc : r.cnt.toNat < p) :
    (ticked p n r).cnt.toNat = (r.cnt.toNat + n) % p := by
  induction n generalizing r with
  | zero => exact (Nat.mod_eq_of_lt hc).symm
  | succ n ih =>
    have hlt : (r.pwmTick p).cnt.toNat < p := nextCount_lt (Nat.zero_lt_of_lt hc) hp
    calc (ticked p n (r.pwmTick p)).cnt.toNat
        = ((r.cnt.toNat + 1) % p + n) % p := by rw [ih hlt, SideRegs.pwmTick_cnt, nextCount_mod hp hc]
      _ = (r.cnt.toNat + (n + 1)) % p := by rw [Nat.mod_add_mod, add_assoc, add_comm 1 n]

/-- The tick after n ticks drives the pair high exactly when its counter, taken modulo PERIOD, is at or below the duty
(R104, R105). -/
theorem ticked_pwmTick_energized {p : Nat} (n : Nat) {r : SideRegs} (hp : p ≤ 255) (hc : r.cnt.toNat < p) :
    ((ticked p n r).pwmTick p).en = .energized ↔ (r.cnt.toNat + n) % p ≤ r.duty.toNat := by
  rw [SideRegs.pwmTick_en, enableLevel_eq_high, ticked_cnt n hp hc, ticked_duty]

/-! ### How many ticks are high (R106) -/

/-- The high ticks among the next n are the k below n at which tick number k drives the pair high. -/
theorem highTicks_eq_count (p n : Nat) (r : SideRegs) :
    highTicks p n r = Nat.count (fun k => ((ticked p k r).pwmTick p).en = .energized) n := by
  induction n generalizing r with
  | zero => rfl
  | succ n ih => rw [highTicks, ih, Nat.count_succ', add_comm]; rfl

/-- Every tick is either high or low. -/
theorem highTicks_add_lowTicks (p n : Nat) (r : SideRegs) : highTicks p n r + lowTicks p n r = n := by
  induction n generalizing r with
  | zero => rfl
  | succ n ih =>
    have hrest := ih (r.pwmTick p)
    rw [highTicks, lowTicks]
    cases (r.pwmTick p).en <;> simp <;> omega

/-- Over one period it does not matter where a count of a periodic property starts. -/
theorem count_add_left_of_periodic {q : Nat → Prop} [DecidablePred q] {p : Nat} (hq : Function.Periodic q p) (c : Nat) :
    Nat.count (fun k => q (c + k)) p = Nat.count q p := by
  have hwrap : Nat.count (fun k => q (p + k)) c = Nat.count q c := by
    congr 1; funext k; rw [add_comm p k, hq]
  have hsplit : Nat.count q c + Nat.count (fun k => q (c + k)) p = Nat.count q p + Nat.count q c := by
    rw [← Nat.count_add, add_comm c p, Nat.count_add, hwrap]
  omega

/-- Before the wrap the values at or below the duty are the first d + 1. -/
theorem count_mod_le {p m : Nat} (d : Nat) (hm : m ≤ p) : Nat.count (fun k => k % p ≤ d) m = min (d + 1) m := by
  induction m with
  | zero => simp
  | succ m ih =>
    rw [Nat.count_succ, ih (Nat.le_of_succ_le hm), Nat.mod_eq_of_lt hm]
    split <;> omega

/-- One counter cycle meets every value below PERIOD once, so it has min(d + 1, PERIOD) high ticks. -/
theorem highTicks_period {p : Nat} {r : SideRegs} (hp : p ≤ 255) (hc : r.cnt.toNat < p) :
    highTicks p p r = min (r.duty.toNat + 1) p := by
  have hperiodic : Function.Periodic (fun k => k % p ≤ r.duty.toNat) p := fun k => by simp
  calc highTicks p p r
      = Nat.count (fun k => (r.cnt.toNat + k) % p ≤ r.duty.toNat) p := by
        simp only [highTicks_eq_count, ticked_pwmTick_energized _ hp hc]
    _ = Nat.count (fun k => k % p ≤ r.duty.toNat) p := count_add_left_of_periodic hperiodic r.cnt.toNat
    _ = min (r.duty.toNat + 1) p := count_mod_le _ le_rfl

/-- Settles O36: the high ticks by `highTicks_period`, and the low ones are the rest of the period. -/
theorem dutyAccuracyOverOneCycle : Obligations.DutyAccuracyOverOneCycle := by
  intro p r hp hc
  have hhigh := highTicks_period hp hc
  have htotal := highTicks_add_lowTicks p p r
  exact ⟨hhigh, by omega⟩

/-- Settles O35, by `ticked_cnt`. -/
theorem counterWrapsMonotonically : Obligations.CounterWrapsMonotonically := fun _ n _ hp hc => ticked_cnt n hp hc

/-- Settles O37: the counter stays below PERIOD, and it comes to PERIOD - 1, where only such a duty is still high. -/
theorem alwaysOnExactlyFromPeriodMinusOne : Obligations.AlwaysOnExactlyFromPeriodMinusOne := by
  intro p r hp hc
  simp only [ticked_pwmTick_energized _ hp hc]
  constructor
  · intro hhigh
    have hlast : (r.cnt.toNat + (p - 1 - r.cnt.toNat)) % p = p - 1 := by
      rw [Nat.add_sub_cancel' (by omega), Nat.mod_eq_of_lt (by omega)]
    exact hlast ▸ hhigh (p - 1 - r.cnt.toNat)
  · intro hduty n
    have hlt : (r.cnt.toNat + n) % p < p := Nat.mod_lt _ (Nat.zero_lt_of_lt hc)
    omega

/-! ### The phase skew (R111) -/

/-- At reset the counters are at the values the skew is measured from. -/
theorem skewInv_applyReset (s : State) : SkewInv (applyReset s) :=
  congrArg (· % s.cfg.period) (add_comm s.cfg.cntInitR.toNat s.cfg.cntInitL.toNat)

/-- A tick advances both counters by one modulo PERIOD. -/
theorem skewInv_takeTick {s : State} (hinv : RegistersInv s) (h : SkewInv s) : SkewInv (takeTick s) := by
  obtain ⟨⟨-, hp, -⟩, hcnt, -⟩ := hinv
  have hnext (x : Side) : ((takeTick s).side x).cnt.toNat ≡ (s.side x).cnt.toNat + 1 [MOD s.cfg.period] := by
    rw [takeTick_side, SideRegs.pwmTick_cnt, nextCount_mod hp (hcnt x)]
    exact Nat.mod_modEq _ _
  have hskew : s.right.cnt.toNat + 1 + s.cfg.cntInitL.toNat ≡ s.left.cnt.toNat + 1 + s.cfg.cntInitR.toNat
      [MOD s.cfg.period] := by
    rw [add_right_comm, add_right_comm s.left.cnt.toNat]
    exact Nat.ModEq.add_right 1 h
  exact ((hnext .right).add_right _).trans (hskew.trans ((hnext .left).symm.add_right _))

/-- What leaves the counters and the parameters alone keeps the skew. -/
theorem skewInv_of_cnt_eq {s t : State} (hcfg : t.cfg = s.cfg) (hcnt : ∀ x, (t.side x).cnt = (s.side x).cnt)
    (h : SkewInv s) : SkewInv t := by
  have hleft : t.left.cnt = s.left.cnt := hcnt .left
  have hright : t.right.cnt = s.right.cnt := hcnt .right
  unfold SkewInv
  rwa [hleft, hright, hcfg]

/-- Settles O38: the skew together with the register invariant, whose counter range the tick needs. -/
theorem phaseSkewIsKept : Obligations.PhaseSkewIsKept := fun _ _ hinv hskew h =>
  (step_keeps (P := fun s => RegistersInv s ∧ SkewInv s) (moves := fun _ _ hs => hs)
    (reset := fun s ⟨hr, _⟩ => ⟨registersInv_applyReset hr, skewInv_applyReset s⟩) (sens := fun _ _ hs => hs)
    (pins := fun _ _ _ hs => hs)
    (tickreq := fun s ⟨hr, hk⟩ => ⟨registersInv_requestTick hr, skewInv_of_cnt_eq (requestTick_cfg s) (by simp) hk⟩)
    (tick := fun _ _ ⟨hr, hk⟩ => ⟨registersInv_takeTick hr, skewInv_takeTick hr hk⟩)
    (main := fun s _ ⟨hr, hk⟩ => ⟨registersInv_mainStep hr, skewInv_of_cnt_eq (mainStep_cfg s) (mainStep_cnt s) hk⟩)
    ⟨hinv, hskew⟩ h).2

end Sys2Proof.Machine

/-! # The steering unit (41_steering.md)

What SENSE writes, and the activity vector it sees the lines through, each said once; then the classification rows, each
by its own condition. -/

namespace Sys2Proof.Machine

/-! ### SENSE (R120) -/

/-- SENSE writes STATE and SEQ and nothing else. -/
theorem exec_sense (s : State) :
    exec .sense s = .next { s with steer := classify s.steer (activityOf s), seq := .wrdirL } := rfl

/-- A sensor is active when its line is at the level of POL (30_encoding.md R72). -/
theorem activityOf_getLsbD (s : State) {i : Nat} (hi : i < 7) :
    (activityOf s).getLsbD i = true ↔ s.sensRaw.getLsbD i = s.pol := by
  rw [activityOf, readSensRaw, activityVector_getLsbD _ _ hi, beq_iff_eq]

/-- The activity vector is zero exactly when no line is at the level of POL. -/
theorem activityOf_eq_zero_iff {s : State} : activityOf s = 0 ↔ ∀ i, i < 7 → s.sensRaw.getLsbD i ≠ s.pol := by
  constructor
  · intro hzero i hi hactive
    have hbit := (activityOf_getLsbD s hi).mpr hactive
    simp [hzero] at hbit
  · intro hnone
    refine BitVec.eq_of_getLsbD_eq fun i hi => ?_
    have hbit : ¬ (activityOf s).getLsbD i = true := fun hset => hnone i hi ((activityOf_getLsbD s hi).mp hset)
    simpa using hbit

/-- Inverting the polarity and every line leaves the activity vector as it is (R133, 30_encoding.md R72). -/
theorem activityVector_not (p : Bool) (raw : Sens7) : activityVector (!p) (~~~raw) = activityVector p raw := by
  cases p <;> simp [activityVector]

/-- Settles O18: the priority chain of `classify`, its bits read as levels of the lines. -/
theorem senseClassifiesByFixedPriority : Obligations.SenseClassifiesByFixedPriority := by
  intro s
  rw [exec_sense]
  simp (disch := decide) only [classify, activityOf_getLsbD]

/-- Settles O21: the activity vector is zero, and such a reading holds the state. -/
theorem emptyReadingHoldsTheState : Obligations.EmptyReadingHoldsTheState := by
  intro s hnone
  rw [exec_sense, activityOf_eq_zero_iff.mpr hnone, classify_zero]

/-- Settles O22: both SENSE steps see the same activity vector. -/
theorem invertingPolarityAndLinesChangesNoState : Obligations.InvertingPolarityAndLinesChangesNoState := by
  intro s t u h hinv
  have hact : activityOf ((s.setPol (!s.pol)).setSensRaw (~~~s.sensRaw)) = activityOf s :=
    activityVector_not s.pol s.sensRaw
  rw [exec_sense] at h
  rw [exec_sense, hact] at hinv
  cases h
  cases hinv
  exact ⟨rfl, rfl⟩

/-- Settles O23: the two activity vectors are one, and the old state matters only where that vector is zero. -/
theorem senseHasNoOtherMemory : Obligations.SenseHasNoOtherMemory := by
  intro s s' t t' h h' hpol hraw hcase
  have hact : activityOf s = activityOf s' := congrArg₂ activityVector hpol hraw
  rw [exec_sense] at h
  rw [exec_sense, ← hact] at h'
  cases h
  cases h'
  rcases hcase with hsteer | ⟨i, hi, hactive⟩
  · exact congrArg (classify · (activityOf s)) hsteer
  · have hne : activityOf s ≠ 0 := fun hzero => activityOf_eq_zero_iff.mp hzero i hi hactive
    exact classify_congr hne s.steer s'.steer

/-! ### The classification rows (R122 to R129) -/

/-- A field of a word is zero exactly when each of its bits is. -/
theorem extractLsb'_eq_zero_iff {w : Nat} {x : BitVec w} {start len : Nat} :
    x.extractLsb' start len = 0 ↔ ∀ i, i < len → x.getLsbD (start + i) = false := by
  rw [BitVec.eq_of_getLsbD_eq_iff]
  exact forall₂_congr fun i hi => by simp [hi]

/-- A classification row writes its state under any condition that says what its mask and match say. -/
theorem exec_row_eq_ite {s : State} {i : Instr} {m b : Sens7} {q : Steering} {p : Prop} [Decidable p]
    (hrow : exec i s = .next (classRow m b q s)) (hcond : activityOf s &&& m = b ↔ p) :
    exec i s = .next (if p then { s with steer := q } else s) :=
  hrow.trans (congrArg Host.Outcome.next (if_congr hcond rfl rfl))

/-- The sensors before next-right are the field A[4:3]. -/
theorem and_mask_softRight_field (a : Sens7) : a &&& 0x1C = 0x04 ↔ a.extractLsb' 3 2 = 0 ∧ a.getLsbD 2 = true := by
  rw [and_mask_softRight, extractLsb'_eq_zero_iff]
  simp only [Nat.forall_lt_succ_right, Nat.not_lt_zero, Nat.reduceAdd]
  tauto

/-- The sensors before outer-left are the field A[4:2]. -/
theorem and_mask_hardLeft_field (a : Sens7) : a &&& 0x3C = 0x20 ↔ a.extractLsb' 2 3 = 0 ∧ a.getLsbD 5 = true := by
  rw [and_mask_hardLeft, extractLsb'_eq_zero_iff]
  simp only [Nat.forall_lt_succ_right, Nat.not_lt_zero, Nat.reduceAdd]
  tauto

/-- The sensors before outer-right are the field A[5:2]. -/
theorem and_mask_hardRight_field (a : Sens7) : a &&& 0x3E = 0x02 ↔ a.extractLsb' 2 4 = 0 ∧ a.getLsbD 1 = true := by
  rw [and_mask_hardRight, extractLsb'_eq_zero_iff]
  simp only [Nat.forall_lt_succ_right, Nat.not_lt_zero, Nat.reduceAdd]
  tauto

/-- The sensors before far-outer-left are the field A[5:1]. -/
theorem and_mask_lostLeft_field (a : Sens7) : a &&& 0x7E = 0x40 ↔ a.extractLsb' 1 5 = 0 ∧ a.getLsbD 6 = true := by
  rw [and_mask_lostLeft, extractLsb'_eq_zero_iff]
  simp only [Nat.forall_lt_succ_right, Nat.not_lt_zero, Nat.reduceAdd]
  tauto

/-- The row of far-outer-right selects one reading alone: its mask keeps every bit. -/
theorem and_mask_lostRight (a : Sens7) : a &&& 0x7F = 0x01 ↔ a = 0b0000001 := by
  rw [show a &&& 0x7F = a from BitVec.and_allOnes]

/-- The row CLS.HOLD writes STATE with its own value (R129). -/
theorem classRow_self (m b : Sens7) (s : State) : classRow m b s.steer s = s := by
  unfold classRow
  split <;> rfl

/-- Settles O20: each row writes its state under its own condition, and CLS.HOLD writes what STATE holds. -/
theorem classificationRowsWriteTheirState : Obligations.ClassificationRowsWriteTheirState := by
  rintro s a rfl
  exact ⟨exec_row_eq_ite rfl (and_mask_centered _), exec_row_eq_ite rfl (and_mask_softLeft _),
    exec_row_eq_ite rfl (and_mask_softRight_field _), exec_row_eq_ite rfl (and_mask_hardLeft_field _),
    exec_row_eq_ite rfl (and_mask_hardRight_field _), exec_row_eq_ite rfl (and_mask_lostLeft_field _),
    exec_row_eq_ite rfl (and_mask_lostRight _), congrArg Host.Outcome.next (classRow_self 0x7F 0x00 s)⟩

/-! ### The reference command table (R135 to R142) -/

/-- Settles O25: the seven rows as the table holds them, and their packed commands computed. -/
theorem referenceTableIsTheSpecs : Obligations.ReferenceTableIsTheSpecs := ⟨rfl, rfl⟩

end Sys2Proof.Machine

/-! # The motor driver (42_motor_driver.md)

First each of the four writes, and what the pins of a side say. Then the two facts about whole runs: what leaves SEQ,
STATE, the parameters and every selector and duty alone is said once, so that both look at MAIN steps and at RESET
only. -/

namespace Sys2Proof.Machine

/-! ### The four writes (R150 to R154) -/

/-- WRDIR.L is the first of the four (R151). -/
theorem exec_wrdirL (s : State) : exec .wrdirL s = .next (writeDirectionLeft s) := rfl

/-- WRDUTY.L is the second (R152). -/
theorem exec_wrdutyL (s : State) : exec .wrdutyL s = .next (writeDutyLeft s) := rfl

/-- WRDIR.R is the third (R153). -/
theorem exec_wrdirR (s : State) : exec .wrdirR s = .next (writeDirectionRight s) := rfl

/-- WRDUTY.R is the last (R154). -/
theorem exec_wrdutyR (s : State) : exec .wrdutyR s = .next (writeDutyRight s) := rfl

/-- The latch of a direction, by whether it is Forward. -/
theorem selectorOf_eq_ite (d : Dir) : selectorOf d = if d = .forward then .forward else .backward := by
  cases d <;> rfl

/-- The pattern of a direction, by whether it is Forward (30_encoding.md R78). -/
theorem pat_eq_ite (d : Dir) : pat d = if d = .forward then 0b10 else 0b01 := by
  cases d <;> rfl

/-- Settles O26: each write puts the selector of the direction in force on its side, whose pins show its pattern. -/
theorem wrdirWritesOneDirection : Obligations.WrdirWritesOneDirection := by
  intro s
  refine ⟨?_, ?_, fun t h => ?_, fun t h => ?_⟩
  · rw [exec_wrdirL, ← selectorOf_eq_ite]; rfl
  · rw [exec_wrdirR, ← selectorOf_eq_ite]; rfl
  · rw [exec_wrdirL] at h
    cases h
    exact (selectorOf_code _).trans (pat_eq_ite _)
  · rw [exec_wrdirR] at h
    cases h
    exact (selectorOf_code _).trans (pat_eq_ite _)

/-- Settles O27: `writeDutyLeft` and `writeDutyRight`, written out. -/
theorem wrdutyWritesOneDuty : Obligations.WrdutyWritesOneDuty := fun s => ⟨exec_wrdutyL s, exec_wrdutyR s⟩

/-- No write touches STATE or a field that another one writes, so the four together issue one command (R155). -/
theorem fourWrites_eq_issueCommand (s : State) :
    writeDutyRight (writeDirectionRight (writeDutyLeft (writeDirectionLeft s))) =
      (issueCommand (commandOf s.cfg.cmdTable s.steer) s).setSeq .sense := rfl

/-- The row of STATE is selected and issues its command (log 5). -/
theorem exec_cmdRow_steer (s : State) :
    exec s.steer.cmdRow s = .next (issueCommand (commandOf s.cfg.cmdTable s.steer) s) := by
  rw [exec_cmdRow, commandRow, if_pos rfl]

/-- Settles O28: both sides issue the command of STATE. -/
theorem fourWritesEqualTheCommandRow : Obligations.FourWritesEqualTheCommandRow := fun s =>
  ⟨_, exec_cmdRow_steer s, congrArg Host.Outcome.next (fourWrites_eq_issueCommand s)⟩

/-! ### What a side's pins say (R158, R159) -/

/-- An enable pair is read back as the latch whose pins show it, and as nothing else. -/
theorem Enable.ofCode_eq_ok_iff {p : Pair} {v : Enable} : Enable.ofCode p = .ok v ↔ v.code = p := by
  cases v <;> revert p <;> decide

/-- A selector pair is read back as the latch whose pins show it, and as nothing else. -/
theorem DirSel.ofCode_eq_ok_iff {p : Pair} {v : DirSel} : DirSel.ofCode p = .ok v ↔ v.code = p := by
  cases v <;> revert p <;> decide

/-- The pairs a drive-enable latch shows are those with both lines alike (30_encoding.md R80). -/
theorem Enable.exists_code_iff {p : Pair} : (∃ v : Enable, v.code = p) ↔ p = 0b00 ∨ p = 0b11 := by
  constructor
  · rintro ⟨v, rfl⟩
    exact Enable.code_paired v
  · rintro (rfl | rfl)
    exacts [⟨.coast, rfl⟩, ⟨.energized, rfl⟩]

/-- A direction-selector latch shows every pair but 0b11 (30_encoding.md R78). -/
theorem DirSel.exists_code_iff {p : Pair} : (∃ v : DirSel, v.code = p) ↔ p ≠ 0b11 := by
  constructor
  · rintro ⟨v, rfl⟩
    cases v <;> decide
  · intro hp
    have hlegal : ∀ q : Pair, q ≠ 0b11 → q = 0b00 ∨ q = 0b10 ∨ q = 0b01 := by decide
    rcases hlegal p hp with rfl | rfl | rfl
    exacts [⟨.none, rfl⟩, ⟨.forward, rfl⟩, ⟨.backward, rfl⟩]

/-- The direction read back from a selector is the one whose pattern its pins show (R158). -/
theorem lastDirection_eq_some_iff {v : DirSel} {d : Dir} : lastDirection v = some d ↔ v.code = pat d := by
  cases v <;> cases d <;> decide

/-- No direction is read back exactly before the first write (R158). -/
theorem lastDirection_eq_none_iff {v : DirSel} : lastDirection v = none ↔ v.code = 0b00 := by
  cases v <;> decide

/-- With both enable lines low the side coasts, whatever its selector shows. -/
theorem drive_coast (v : DirSel) : drive 0b00 v.code = .ok .coast := by
  cases v <;> rfl

/-- What a side's latches show always has a reading. -/
theorem exists_drive_code (e : Enable) (v : DirSel) : ∃ d, drive e.code v.code = .ok d := by
  cases e
  case coast => exact ⟨.coast, drive_coast v⟩
  case energized =>
    cases v
    exacts [⟨.noDirection, rfl⟩, ⟨.driveForward, rfl⟩, ⟨.driveBackward, rfl⟩]

/-- A reserved pair on the enable pins is refused (log 10). -/
theorem drive_of_enable_error {e d : Pair} {err : DecodeError} (h : Enable.ofCode e = .error err) :
    drive e d = .error err := by
  rw [drive, h]

/-- A reserved pair on the selector pins is refused, whatever the enable pins show (log 10). -/
theorem drive_of_dirSel_error {e d : Pair} {err : DecodeError} (h : DirSel.ofCode d = .error err) :
    ∃ err', drive e d = .error err' := by
  rw [drive, h]
  cases Enable.ofCode e with
  | error err' => exact ⟨err', rfl⟩
  | ok v => exact ⟨err, by cases v <;> rfl⟩

/-- Settles O33: each latch is read back from its pins, and the pairs no latch shows are those refused. -/
theorem pinsSayDriveAndDirection : Obligations.PinsSayDriveAndDirection := by
  constructor
  · intro r
    refine ⟨fun he hd => ?_, fun he hd => ?_, fun he => ?_, exists_drive_code r.en r.dsel,
      fun _ => lastDirection_eq_some_iff, lastDirection_eq_none_iff, Enable.ofCode_code r.en, DirSel.ofCode_code r.dsel⟩
    · rw [he, hd]; rfl
    · rw [he, hd]; rfl
    · rw [he]; exact drive_coast r.dsel
  · intro e d
    refine ⟨?_, ?_, ?_⟩
    · simp only [Enable.ofCode_eq_ok_iff, Enable.exists_code_iff]
    · simp only [DirSel.ofCode_eq_ok_iff, DirSel.exists_code_iff]
    · rintro (rfl | rfl | rfl)
      · exact ⟨.reservedEnable, drive_of_enable_error rfl⟩
      · exact ⟨.reservedEnable, drive_of_enable_error rfl⟩
      · exact drive_of_dirSel_error (err := .reservedSelector) rfl

/-! ### What the driver's registers depend on (R155, R156) -/

/-- SEQ, STATE, the parameters and each side's selector and duty are the same: all that says which command shows. -/
structure SameCommand (s t : State) : Prop where
  seq : t.seq = s.seq
  steer : t.steer = s.steer
  cfg : t.cfg = s.cfg
  dsel : ∀ x, (t.side x).dsel = (s.side x).dsel
  duty : ∀ x, (t.side x).duty = (s.side x).duty

/-- A tick moves only counters, enable pairs and TICK_PEND (60_exceptions.md R208). -/
theorem sameCommand_takeTick (s : State) : SameCommand s (takeTick s) :=
  ⟨rfl, rfl, rfl, fun _ => by simp, fun _ => by simp⟩

/-- A request moves only TICK_PEND (60_exceptions.md R206). -/
theorem sameCommand_requestTick (s : State) : SameCommand s (requestTick s) := by
  rw [requestTick_eq]
  exact ⟨rfl, rfl, rfl, fun _ => rfl, fun _ => rfl⟩

/-- Of the step relation only RESET and MAIN touch what says which command shows. -/
theorem sameCommand_of_coreStep {l : Label} {s t : State} (h : CoreStep l s t) (hreset : l ≠ .reset) (hmain : l ≠ .main) :
    SameCommand s t := by
  cases h with
  | reset => exact absurd rfl hreset
  | main => exact absurd rfl hmain
  | sensRaw v => exact ⟨rfl, rfl, rfl, fun _ => rfl, fun _ => rfl⟩
  | cfgPol p => exact ⟨rfl, rfl, rfl, fun _ => rfl, fun _ => rfl⟩
  | cfgHalt p => exact ⟨rfl, rfl, rfl, fun _ => rfl, fun _ => rfl⟩
  | tickreq => exact sameCommand_requestTick s
  | dispatch => exact sameCommand_takeTick s

/-- Such states show the same command on each side. -/
theorem SameCommand.sideShows {s t : State} (h : SameCommand s t) : SideShows t = SideShows s := by
  funext x q
  rw [SideShows, SideShows, h.dsel, h.duty, h.cfg]

/-- `dsel` and `duty` in the form in which the invariants name a side that shows no whole command. -/
theorem SameCommand.left_dsel {s t : State} (h : SameCommand s t) : t.left.dsel = s.left.dsel := h.dsel .left

theorem SameCommand.right_dsel {s t : State} (h : SameCommand s t) : t.right.dsel = s.right.dsel := h.dsel .right

theorem SameCommand.left_duty {s t : State} (h : SameCommand s t) : t.left.duty = s.left.duty := h.duty .left

theorem SameCommand.right_duty {s t : State} (h : SameCommand s t) : t.right.duty = s.right.duty := h.duty .right

/-! ### The driver invariant (R155, R156) -/

/-- The invariant looks at nothing else. -/
theorem SameCommand.driverInv {s t : State} (h : SameCommand s t) (hinv : DriverInv s) : DriverInv t := by
  unfold DriverInv DriverShows at *
  rwa [h.seq, h.steer, h.cfg, h.sideShows, h.left_dsel, h.right_dsel, h.left_duty, h.right_duty]

/-- After RESET both sides show no command (10_state.md R38). -/
theorem driverInv_applyReset (s : State) : DriverInv (applyReset s) := fun x => by
  cases x <;> exact ⟨rfl, rfl⟩

/-- SENSE makes the command shown an earlier state's, and each write puts one more register at the command of STATE. -/
theorem driverInv_mainStep {s : State} (h : DriverInv s) : DriverInv (mainStep s) := by
  unfold DriverInv at h
  unfold mainStep
  cases hseq : s.seq <;> rw [hseq] at h
  case cfgrd =>
    dsimp only
    rw [readConfiguration_eq]
    split
    · exact h
    · exact .inl h
  case sense =>
    rcases h with hnone | hshown
    · exact ⟨none, hnone⟩
    · exact ⟨some s.steer, hshown⟩
  case wrdirL =>
    obtain ⟨old, hold⟩ := h
    obtain ⟨-, hduty⟩ := hold .left
    exact ⟨rfl, old, hduty, hold .right⟩
  case wrdutyL =>
    obtain ⟨hdsel, old, -, hright⟩ := h
    exact ⟨⟨hdsel, rfl⟩, old, hright⟩
  case wrdirR =>
    obtain ⟨hleft, old, -, hduty⟩ := h
    exact ⟨hleft, rfl, old, hduty⟩
  case wrdutyR =>
    obtain ⟨hleft, hdsel, -⟩ := h
    refine .inr fun x => ?_
    cases x
    · exact hleft
    · exact ⟨hdsel, rfl⟩
  case idle => exact h

/-- Settles O30: MAIN and RESET by their own lemmas, every other operation leaves what the invariant looks at. -/
theorem driverInvariantIsKept : Obligations.DriverInvariantIsKept := fun _ _ hs h =>
  step_keeps (P := DriverInv) (moves := fun _ _ hs => hs) (reset := fun s _ => driverInv_applyReset s)
    (sens := fun _ _ hs => hs) (pins := fun _ _ _ hs => hs)
    (tickreq := fun s => (sameCommand_requestTick s).driverInv) (tick := fun s _ => (sameCommand_takeTick s).driverInv)
    (main := fun _ _ => driverInv_mainStep) hs h

/-! ### One whole iteration (R155, 43_sequencer.md R170) -/

/-- `n` MAIN steps are left of an iteration: where SEQ then is, and which registers already hold the command of the
state SENSE wrote. With five left SENSE comes next; with none the command shows on both sides. -/
def IterationLeft (n : Nat) (s : State) : Prop :=
  match n with
  | 0 => s.seq = .sense ∧ DriverShows s (some s.steer)
  | 1 => s.seq = .wrdutyR ∧ SideShows s .left (some s.steer) ∧
      s.right.dsel = shownDsel s.cfg.cmdTable .right (some s.steer)
  | 2 => s.seq = .wrdirR ∧ SideShows s .left (some s.steer)
  | 3 => s.seq = .wrdutyL ∧ s.left.dsel = shownDsel s.cfg.cmdTable .left (some s.steer)
  | 4 => s.seq = .wrdirL
  | 5 => s.seq = .sense
  | _ => False

/-- What leaves the command alone leaves the place in the iteration alone. -/
theorem SameCommand.iterationLeft {s t : State} (h : SameCommand s t) {n : Nat} (hn : IterationLeft n s) :
    IterationLeft n t := by
  unfold IterationLeft DriverShows at *
  rwa [h.seq, h.steer, h.cfg, h.sideShows, h.left_dsel, h.right_dsel]

/-- A MAIN step is the next of the iteration: SENSE, or the write that SEQ names. -/
theorem iterationLeft_mainStep {n : Nat} {s : State} (h : IterationLeft (n + 1) s) : IterationLeft n (mainStep s) := by
  unfold mainStep
  match n, h with
  | 0, ⟨hseq, hleft, hdsel⟩ =>
    rw [hseq]
    refine ⟨rfl, fun x => ?_⟩
    cases x
    · exact hleft
    · exact ⟨hdsel, rfl⟩
  | 1, ⟨hseq, hleft⟩ =>
    rw [hseq]
    exact ⟨rfl, hleft, rfl⟩
  | 2, ⟨hseq, hdsel⟩ =>
    rw [hseq]
    exact ⟨rfl, hdsel, rfl⟩
  | 3, hseq =>
    rw [show s.seq = .wrdirL from hseq]
    exact ⟨rfl, rfl⟩
  | 4, hseq =>
    rw [show s.seq = .sense from hseq]
    rfl

/-- A run with no RESET in it and as many MAIN steps as are left of the iteration ends the iteration, whatever the other
steps are and wherever they fall. -/
theorem iterationLeft_zero_of_coreTrace {s t : State} {tr : List (State × Label)} (htr : CoreTrace s tr t)
    (hreset : .reset ∉ labels tr) (h : IterationLeft ((labels tr).count .main) s) : IterationLeft 0 t := by
  induction htr with
  | nil s => exact h
  | @cons s u t l tr hstep _ ih =>
    obtain ⟨hl, hrest⟩ : Label.reset ≠ l ∧ Label.reset ∉ labels tr :=
      ⟨List.ne_of_not_mem_cons hreset, List.not_mem_of_not_mem_cons hreset⟩
    refine ih hrest ?_
    change IterationLeft ((l :: labels tr).count .main) s at h
    by_cases hmain : l = .main
    · subst hmain
      rw [List.count_cons_self] at h
      cases hstep
      exact iterationLeft_mainStep h
    · rw [List.count_cons_of_ne hmain] at h
      exact (sameCommand_of_coreStep hstep hl.symm hmain).iterationLeft h

/-- Settles O29: at SENSE five MAIN steps are left, and none once the run is over. -/
theorem wholeIterationShowsTheCommand : Obligations.WholeIterationShowsTheCommand := by
  intro s t tr htr hseq hreset hcount
  have hbegin : IterationLeft ((labels tr).count .main) s := hcount ▸ hseq
  exact iterationLeft_zero_of_coreTrace htr hreset hbegin

end Sys2Proof.Machine

/-! # The sequencer (43_sequencer.md)

CFGRD and IDLE, then the two phases that no MAIN step leaves: the run loop, and the configured halt, where a step can
change only the levels on the pins. -/

namespace Sys2Proof.Machine

/-! ### CFGRD and IDLE (R171, R178) -/

/-- CFGRD is the read of the boot configuration (R171). -/
theorem exec_cfgrd (s : State) : exec .cfgrd s = .next (readConfiguration s) := rfl

/-- IDLE is a write of SEQ (R178). -/
theorem exec_idle (s : State) : exec .idle s = .next (s.setSeq .idle) := rfl

/-- At SEQ 7 IDLE is MAIN's step in HALT, which changes nothing (R178, its example). -/
theorem exec_idle_of_seq_idle {s : State} (h : s.seq = .idle) : exec .idle s = .next s :=
  calc exec .idle s = exec s.seq.instr s := by rw [h]; rfl
    _ = .next (mainStep s) := exec_seq_instr s
    _ = .next s := by rw [mainStep_of_halt (State.phase_eq_halt.mpr h)]

/-- Settles O13, by the case on CFG_HALT that `readConfiguration_eq` makes. -/
theorem cfgrdLatchesPolarityAndChoosesRunOrHalt : Obligations.CfgrdLatchesPolarityAndChoosesRunOrHalt := by
  intro s
  rw [exec_cfgrd, readConfiguration_eq]
  rfl

/-- Settles O14: IDLE writes SEQ alone, and with the value it has in HALT. -/
theorem idleChangesNothing : Obligations.IdleChangesNothing := fun s =>
  ⟨exec_idle s, exec_idle_of_seq_idle⟩

/-! ### The run loop (R182) -/

/-- A request leaves POL alone (60_exceptions.md R206). -/
@[simp] theorem requestTick_pol (s : State) : (requestTick s).pol = s.pol := by rw [requestTick_eq]; rfl

/-- In the RUN phase a MAIN step leaves POL alone: only CFGRD writes it (10_state.md R31). -/
theorem mainStep_pol_of_run {s : State} (h : s.phase = .run) : (mainStep s).pol = s.pol := by
  unfold State.phase at h
  unfold mainStep
  cases hseq : s.seq <;> rw [hseq] at h
  case cfgrd | idle => exact nomatch h
  case sense => rfl
  case wrdirL | wrdutyL | wrdirR | wrdutyR => exact State.setSide_pol s _ _

/-- Settles O15, by cases on the step: only RESET and MAIN touch SEQ or POL, and MAIN in RUN stays there. -/
theorem runLoopIsLeftOnlyByReset : Obligations.RunLoopIsLeftOnlyByReset := by
  intro l s t hstep hrun
  cases hstep with
  | reset => exact .inl ⟨rfl, applyReset_phase s⟩
  | sensRaw => exact .inr ⟨hrun, rfl, rfl⟩
  | cfgPol => exact .inr ⟨hrun, rfl, rfl⟩
  | cfgHalt => exact .inr ⟨hrun, rfl, rfl⟩
  | tickreq => exact .inr ⟨(requestTick_phase s).trans hrun, requestTick_pol s, requestTick_tickEn s⟩
  | dispatch => exact .inr ⟨(takeTick_phase s).trans hrun, takeTick_pol s, takeTick_tickEn s⟩
  | main => exact .inr ⟨mainStep_phase_of_run hrun, mainStep_pol_of_run hrun, mainStep_tickEn_of_run hrun⟩

/-! ### The configured halt (R178, 60_exceptions.md R226) -/

/-- The thirteen registers of 10_state.md R20 are the same; the input levels need not be. -/
structure SameRegisters (s t : State) : Prop where
  left : t.left = s.left
  right : t.right = s.right
  steer : t.steer = s.steer
  pol : t.pol = s.pol
  seq : t.seq = s.seq
  tickEn : t.tickEn = s.tickEn
  tickPend : t.tickPend = s.tickPend

theorem SameRegisters.refl (s : State) : SameRegisters s s := ⟨rfl, rfl, rfl, rfl, rfl, rfl, rfl⟩

theorem SameRegisters.trans {s t u : State} (h : SameRegisters s t) (k : SameRegisters t u) : SameRegisters s u :=
  ⟨k.left.trans h.left, k.right.trans h.right, k.steer.trans h.steer, k.pol.trans h.pol, k.seq.trans h.seq,
    k.tickEn.trans h.tickEn, k.tickPend.trans h.tickPend⟩

/-- The configured halt: SEQ at IDLE, ticks disabled and none pending. -/
structure Halted (s : State) : Prop where
  seq : s.seq = .idle
  tickEn : s.tickEn = false
  tickPend : s.tickPend = false

/-- In HALT the register invariant has TICK_EN at 0, and so TICK_PEND (10_state.md R32, R33). -/
theorem halted_of_registersInv {s : State} (hinv : RegistersInv s) (hp : s.phase = .halt) : Halted s := by
  obtain ⟨-, -, hen, hpend⟩ := registersInv_iff.mp hinv
  have htickEn : s.tickEn = false := Bool.eq_false_iff.mpr fun h => by
    rw [hen.mp h] at hp
    exact nomatch hp
  have htickPend : s.tickPend = false := Bool.eq_false_iff.mpr fun h => by
    rw [hpend h] at htickEn
    exact nomatch htickEn
  exact ⟨State.phase_eq_halt.mp hp, htickEn, htickPend⟩

/-- The halt is a matter of the registers alone. -/
theorem SameRegisters.halted {s t : State} (h : SameRegisters s t) (hs : Halted s) : Halted t :=
  ⟨h.seq.trans hs.seq, h.tickEn.trans hs.tickEn, h.tickPend.trans hs.tickPend⟩

/-- In the halt no step but RESET writes a register: a request is dropped, no tick is there to dispatch, and MAIN's step
is IDLE. -/
theorem Halted.sameRegisters_of_coreStep {l : Label} {s t : State} (hs : Halted s) (h : CoreStep l s t)
    (hreset : l ≠ .reset) : SameRegisters s t := by
  cases h with
  | reset => exact absurd rfl hreset
  | sensRaw => exact ⟨rfl, rfl, rfl, rfl, rfl, rfl, rfl⟩
  | cfgPol => exact ⟨rfl, rfl, rfl, rfl, rfl, rfl, rfl⟩
  | cfgHalt => exact ⟨rfl, rfl, rfl, rfl, rfl, rfl, rfl⟩
  | tickreq =>
    rw [requestTick_of_disabled hs.tickEn]
    exact .refl s
  | dispatch _ henabled =>
    rw [dispatchEnabled_of_not_tickPend hs.tickPend] at henabled
    exact nomatch henabled
  | main =>
    rw [mainStep_of_halt (State.phase_eq_halt.mpr hs.seq)]
    exact .refl s

/-- Each step of a run without RESET leaves the halt in place for the next. -/
theorem Halted.sameRegisters_of_coreTrace {s t : State} {tr : List (State × Label)} (hs : Halted s)
    (htr : CoreTrace s tr t) (hreset : .reset ∉ labels tr) : SameRegisters s t := by
  induction htr with
  | nil s => exact .refl s
  | @cons s u t l tr hstep _ ih =>
    obtain ⟨hl, hrest⟩ : Label.reset ≠ l ∧ Label.reset ∉ labels tr :=
      ⟨List.ne_of_not_mem_cons hreset, List.not_mem_of_not_mem_cons hreset⟩
    have hsame : SameRegisters s u := hs.sameRegisters_of_coreStep hstep hl.symm
    exact hsame.trans (ih (hsame.halted hs) hrest)

/-- Settles O16: the register invariant gives the halt at the start of the run, and induction on the run the rest. -/
theorem haltedRunChangesNoRegister : Obligations.HaltedRunChangesNoRegister := by
  intro s t tr htr hinv hphase hreset
  obtain ⟨hleft, hright, hsteer, hpol, hseq, htickEn, htickPend⟩ :=
    (halted_of_registersInv hinv hphase).sameRegisters_of_coreTrace htr hreset
  exact ⟨hleft, hright, hsteer, hpol, hseq, htickEn, htickPend⟩

end Sys2Proof.Machine

/-! # The step, the step relation and the tick request (60_exceptions.md)

The operations of the tick interrupt, and MAIN beside a request; which operation a step selects, and what it leaves of
the environment's moves; then the machine's step against the step relation of R213, in both directions, and progress in
a weakly fair run. -/

namespace Sys2Proof.Machine

/-! ### The tick request and DISPATCH (R206, R208) -/

/-- TICKREQ is the request of a tick. -/
theorem exec_tickreq (s : State) : exec .tickreq s = .next (requestTick s) := rfl

/-- DISPATCH field by field: both sides tick, the request is cleared, and nothing is saved. -/
theorem takeTick_eq (s : State) :
    takeTick s =
      { s with left := s.left.pwmTick s.cfg.period, right := s.right.pwmTick s.cfg.period, tickPend := false } := rfl

/-- Settles O40: DISPATCH is `SideRegs.pwmTick` on each side, and the pins show the latches it writes. -/
theorem dispatchTicksBothSidesAndClears : Obligations.DispatchTicksBothSidesAndClears := by
  intro s
  rw [exec_dispatch]
  refine ⟨fun t h => ?_, ?_⟩
  · cases h
    exact ⟨enableLevel_code s.left.cnt s.left.duty, enableLevel_code s.right.cnt s.right.duty⟩
  · rw [takeTick_eq, SideRegs.pwmTick_eq, SideRegs.pwmTick_eq]

/-- Settles O41: the case on TICK_EN is the one a request makes. -/
theorem tickRequestLatchesOrIsDropped : Obligations.TickRequestLatchesOrIsDropped := by
  intro s
  rw [exec_tickreq, requestTick]
  rfl

/-! ### A request beside a MAIN step (R212) -/

/-- A request leaves SEQ alone (R206). -/
@[simp] theorem requestTick_seq (s : State) : (requestTick s).seq = s.seq := by rw [requestTick_eq]; rfl

/-- A MAIN step does not look at TICK_PEND. -/
theorem mainStep_setTickPend (s : State) (b : Bool) : mainStep (s.setTickPend b) = (mainStep s).setTickPend b := by
  unfold mainStep
  rw [State.setTickPend_seq]
  cases s.seq
  case cfgrd =>
    dsimp only
    rw [readConfiguration_eq, readConfiguration_eq, State.setTickPend_cfgHalt]
    split <;> rfl
  all_goals rfl

/-- Only CFGRD writes TICK_EN (10_state.md R32). -/
theorem mainStep_tickEn_of_ne_cfgrd {s : State} (h : s.seq ≠ .cfgrd) : (mainStep s).tickEn = s.tickEn := by
  cases hp : s.phase with
  | boot => exact absurd (State.phase_eq_boot.mp hp) h
  | run => exact mainStep_tickEn_of_run hp
  | halt => rw [mainStep_of_halt hp]

/-- But for CFGRD, which enables the request, a MAIN step commutes with a request (R212). -/
theorem mainStep_requestTick {s : State} (h : s.seq ≠ .cfgrd) : mainStep (requestTick s) = requestTick (mainStep s) := by
  rw [requestTick_eq, requestTick_eq, mainStep_setTickPend, mainStep_tickEn_of_ne_cfgrd h, mainStep_tickPend]

/-- Settles O42: SEQ names the same micro-operation before and after the request, and that is a MAIN step. -/
theorem tickRequestCommutesWithMain : Obligations.TickRequestCommutesWithMain := by
  intro s u v w hseq hu hv hw
  cases hu
  rw [← requestTick_seq s, exec_seq_instr] at hv
  rw [exec_seq_instr] at hw
  cases hv
  cases hw
  rw [exec_tickreq, mainStep_requestTick hseq]

/-! ### The core's own step (R210, R211, R212) -/

/-- The write windows are those of the two duties (R211). -/
theorem inWriteWindow_iff {q : SeqStep} : inWriteWindow q = true ↔ q = .wrdutyL ∨ q = .wrdutyR := by
  cases q <;> simp [inWriteWindow]

/-- DISPATCH is enabled by a pending tick, unless CMD_ATOMIC holds it in a write window (R210, R211). -/
theorem dispatchEnabled_iff {s : State} :
    dispatchEnabled s = true ↔
      s.tickPend = true ∧ ¬(s.cfg.cmdAtomic = true ∧ (s.seq = .wrdutyL ∨ s.seq = .wrdutyR)) := by
  rw [← inWriteWindow_iff, dispatchEnabled, held, Bool.and_eq_true, Bool.not_eq_true', ← Bool.not_eq_true,
    Bool.and_eq_true]

/-- MAIN is enabled exactly where DISPATCH is not (R212). -/
theorem mainEnabled_iff {s : State} : mainEnabled s = true ↔ dispatchEnabled s = false := by
  rw [mainEnabled, Bool.not_eq_true']

/-- A step runs the instruction that is fetched, on the state with the moves that are left. -/
theorem step_of_fetch {s : State} {i : Instr} {rest : List Move} (h : fetch s = .ok (i, rest)) :
    step s = exec i (s.setMoves rest) := by
  rw [step, h]

/-- With no move waiting the core takes its own step. -/
theorem step_of_no_moves {s : State} (h : s.moves = []) : step s = exec (coreInstr s) s := by
  have hfetch : fetch s = .ok (coreInstr s, s.moves) := by rw [fetch, h]
  rw [step_of_fetch hfetch, State.setMoves_self]

/-- Settles O9: the core's own step is DISPATCH where it is enabled and SEQ's micro-operation where it is not. -/
theorem pendingTickGoesBeforeMainUnlessHeld : Obligations.PendingTickGoesBeforeMainUnlessHeld := by
  intro s hmoves
  rw [step_of_no_moves hmoves, coreInstr]
  simp only [dispatchEnabled_iff]
  split <;> rfl

/-! ### No operation touches the environment's moves -/

@[simp] theorem requestTick_moves (s : State) : (requestTick s).moves = s.moves := by rw [requestTick_eq]; rfl

@[simp] theorem dispatchIfEnabled_moves (s : State) : (dispatchIfEnabled s).moves = s.moves := by
  unfold dispatchIfEnabled; split <;> rfl

@[simp] theorem classRow_moves (m b : Sens7) (q : Steering) (s : State) : (classRow m b q s).moves = s.moves := by
  unfold classRow; split <;> rfl

@[simp] theorem commandRow_moves (q : Steering) (s : State) : (commandRow q s).moves = s.moves := by
  unfold commandRow; split <;> rfl

/-- Every instruction completes and leaves the moves as they are: they are the environment's. -/
theorem exec_next_moves (i : Instr) (s : State) : ∃ t, exec i s = .next t ∧ t.moves = s.moves := by
  cases i with
  | cfgrd => exact ⟨_, exec_seqInstr .cfgrd s, by simp⟩
  | tickreq => exact ⟨_, rfl, requestTick_moves s⟩
  | step => exact ⟨_, rfl, by simp⟩
  | tick => exact ⟨_, rfl, by simp⟩
  | clsCentered | clsSoftleft | clsSoftright | clsHardleft | clsHardright | clsLostleft | clsLostright | clsHold =>
    exact ⟨_, rfl, classRow_moves ..⟩
  | cmdCentered | cmdSoftleft | cmdSoftright | cmdHardleft | cmdHardright | cmdLostleft | cmdLostright =>
    exact ⟨_, rfl, commandRow_moves ..⟩
  | _ => exact ⟨_, rfl, rfl⟩

/-! ### Where a step stops (R200; 30_encoding.md R81, R83) -/

/-- The check of a stimulus word says which words the decoder takes. -/
theorem stimWellFormed_iff_decodes (w : Stim10) : stimWellFormed w = true ↔ ∃ i, decodeStim w = .ok i := by
  obtain ⟨hdecodes, -⟩ := stimulusWordsDecodeExactlyWhenWellFormed w
  have kinds : ∀ k : BitVec 3, k = 0b000 ∨ k = 0b001 ∨ k = 0b010 ∨ k = 0b011 ∨ k = 0b100 ∨ k = 0b101 ∨ k = 0b110 ∨
      k = 0b111 := by decide
  rw [hdecodes, stimWellFormed]
  rcases kinds (stimKind w) with h | h | h | h | h | h | h | h <;> simp [h]

/-- A fetch gives an instruction and leaves a tail of the moves, or meets an ill-formed word. -/
theorem fetch_ok_or_illFormed (s : State) :
    (∃ i rest, fetch s = .ok (i, rest) ∧ rest <:+ s.moves) ∨
      ∃ w rest, s.moves = .stim w :: rest ∧ stimWellFormed w = false ∧ fetch s = .error (.illFormedStimulus w) := by
  unfold fetch
  cases s.moves with
  | nil => exact .inl ⟨_, _, rfl, List.suffix_rfl⟩
  | cons m rest =>
    cases m with
    | stim w =>
      cases hdecode : decodeStim w with
      | ok i =>
        refine .inl ?_
        by_cases hwait : i = .step ∧ dispatchEnabled s = true
        · obtain ⟨rfl, hd⟩ := hwait
          exact ⟨.dispatch, .stim w :: rest, by simp [fetchMove, hdecode, hd], List.suffix_rfl⟩
        · refine ⟨i, rest, ?_, List.suffix_cons _ rest⟩
          cases i with
          | step =>
            have hd : dispatchEnabled s = false := by simpa using hwait
            simp [fetchMove, hdecode, hd]
          | _ => simp only [fetchMove, hdecode]
      | error e =>
        refine .inr ⟨w, rest, rfl, ?_, by simp only [fetchMove, hdecode]⟩
        rw [← Bool.not_eq_true, stimWellFormed_iff_decodes, hdecode]
        exact fun ⟨_, h⟩ => nomatch h
    | _ => exact .inl ⟨_, _, rfl, List.suffix_cons _ rest⟩

/-- A step has a next state and leaves a tail of the moves, or it refuses an ill-formed word by name. -/
theorem step_next_or_illFormed (s : State) :
    (∃ t, step s = .next t ∧ t.moves <:+ s.moves) ∨
      ∃ w rest, s.moves = .stim w :: rest ∧ stimWellFormed w = false ∧ step s = .refused (.illFormedStimulus w) := by
  rcases fetch_ok_or_illFormed s with ⟨i, rest, hfetch, hrest⟩ | ⟨w, rest, hmoves, hw, hfetch⟩
  · obtain ⟨t, hexec, ht⟩ := exec_next_moves i (s.setMoves rest)
    exact .inl ⟨t, (step_of_fetch hfetch).trans hexec, by rwa [ht]⟩
  · exact .inr ⟨w, rest, hmoves, hw, by rw [step, hfetch]⟩

/-- Settles O12: of the two things a step can do, well-formed moves rule out the refusal, and neither is a fault. -/
theorem stepStopsOnlyAtAnIllFormedWord : Obligations.StepStopsOnlyAtAnIllFormedWord := by
  refine ⟨fun s hs => ?_, fun s r hr => ?_, fun s f hf => ?_⟩
  · rcases step_next_or_illFormed s with ⟨t, hstep, hsuffix⟩ | ⟨w, rest, hmoves, hw, -⟩
    · exact ⟨t, hstep, fun m hm => hs m (hsuffix.subset hm)⟩
    · have hword : stimWellFormed w = true := hs (.stim w) (by simp [hmoves])
      rw [hw] at hword
      exact nomatch hword
  · rcases step_next_or_illFormed s with ⟨t, hstep, -⟩ | ⟨w, rest, hmoves, hw, hstep⟩
    · exact nomatch hstep.symm.trans hr
    · cases hstep.symm.trans hr
      exact ⟨w, rest, hmoves, hw, rfl⟩
  · rcases step_next_or_illFormed s with ⟨t, hstep, -⟩ | ⟨w, rest, -, -, hstep⟩
    · exact nomatch hstep.symm.trans hf
    · exact nomatch hstep.symm.trans hf

/-! ### Every step is a run of the relation (R213) -/

/-- The relation does not look at the moves. -/
theorem CoreStep.setMoves {l : Label} {s t : State} (h : CoreStep l s t) (ms : List Move) :
    CoreStep l (s.setMoves ms) (t.setMoves ms) := by
  cases h with
  | reset => exact .reset _
  | sensRaw _ v => exact .sensRaw _ v
  | cfgPol _ p => exact .cfgPol _ p
  | cfgHalt _ level => exact .cfgHalt _ level
  | tickreq => rw [← requestTick_setMoves]; exact .tickreq _
  | dispatch _ enabled => exact .dispatch _ enabled
  | main _ enabled => rw [← mainStep_setMoves]; exact .main _ enabled

/-- Nor does a run, state by state. -/
theorem CoreTrace.setMoves {s t : State} {tr : List (State × Label)} (h : CoreTrace s tr t) (ms : List Move) :
    CoreTrace (s.setMoves ms) (tr.map (Prod.map (·.setMoves ms) id)) (t.setMoves ms) := by
  induction h with
  | nil s => exact .nil _
  | cons hstep _ ih => exact .cons (hstep.setMoves ms) ih

/-- A run of one or two steps leads from one state to the other. -/
def OneOrTwoSteps (s t : State) : Prop := ∃ tr, CoreTrace s tr t ∧ 1 ≤ tr.length ∧ tr.length ≤ 2

theorem CoreStep.oneOrTwoSteps {l : Label} {s t : State} (h : CoreStep l s t) : OneOrTwoSteps s t :=
  ⟨_, .cons h (.nil t), by simp⟩

theorem CoreStep.oneOrTwoSteps_of_coreStep {l k : Label} {s t u : State} (h : CoreStep l s t) (h' : CoreStep k t u) :
    OneOrTwoSteps s u :=
  ⟨_, .cons h (.cons h' (.nil u)), by simp⟩

theorem OneOrTwoSteps.setMoves {s t : State} (h : OneOrTwoSteps s t) (ms : List Move) :
    OneOrTwoSteps (s.setMoves ms) (t.setMoves ms) := by
  obtain ⟨tr, htr, hlen⟩ := h
  exact ⟨_, htr.setMoves ms, by rwa [List.length_map]⟩

/-- The core's own step is the one of DISPATCH and MAIN that is enabled (R210, R212). -/
theorem coreStep_core (s : State) : ∃ l, CoreStep l s (if dispatchEnabled s then takeTick s else mainStep s) := by
  cases hd : dispatchEnabled s
  · exact ⟨.main, .main s (mainEnabled_iff.mpr hd)⟩
  · exact ⟨.dispatch, .dispatch s hd⟩

/-- A step followed by DISPATCH where it is then enabled, as the words STEP and TICK are (30_encoding.md R81). -/
theorem CoreStep.oneOrTwoSteps_dispatchIfEnabled {l : Label} {s t : State} (h : CoreStep l s t) :
    OneOrTwoSteps s (dispatchIfEnabled t) := by
  unfold dispatchIfEnabled
  split
  · exact h.oneOrTwoSteps_of_coreStep (.dispatch t ‹_›)
  · exact h.oneOrTwoSteps

/-- A CFG word changes its two pins one after the other. -/
theorem oneOrTwoSteps_setCfgPins (s : State) (h p : Bool) : OneOrTwoSteps s (s.setCfgPins h p) :=
  (CoreStep.cfgHalt s h).oneOrTwoSteps_of_coreStep (.cfgPol _ p)

/-- Settles O10: each thing a step can do is such a run from the state with the used move taken away, and the relation
does not look at the moves. -/
theorem everyStepIsARunOfTheRelation : Obligations.EveryStepIsARunOfTheRelation := by
  intro s t hstep
  obtain ⟨rest, u, hu, ht⟩ := step_cases hstep
  have hrun : OneOrTwoSteps u t := by
    rcases ht with rfl | rfl | rfl | ⟨v, rfl⟩ | ⟨h, p, rfl⟩ | ⟨hd, rfl⟩ | rfl
    · obtain ⟨l, hcore⟩ := coreStep_core u
      exact hcore.oneOrTwoSteps
    · exact (CoreStep.tickreq u).oneOrTwoSteps
    · exact (CoreStep.reset u).oneOrTwoSteps
    · exact (CoreStep.sensRaw u v).oneOrTwoSteps
    · exact oneOrTwoSteps_setCfgPins u h p
    · exact (CoreStep.main u (mainEnabled_iff.mpr hd)).oneOrTwoSteps_dispatchIfEnabled
    · exact (CoreStep.tickreq u).oneOrTwoSteps_dispatchIfEnabled
  subst hu
  exact hrun.setMoves []

/-! ### Every step of the relation is a step of the machine (R213) -/

/-- The move with which the environment lets the core go on is the core's own step. -/
theorem step_core_move (s : State) (ms : List Move) :
    step (s.setMoves (.core :: ms)) = .next ((if dispatchEnabled s then takeTick s else mainStep s).setMoves ms) := by
  have hstep : step (s.setMoves (.core :: ms)) = exec (coreInstr (s.setMoves ms)) (s.setMoves ms) := rfl
  rw [hstep, exec_coreInstr, dispatchEnabled_setMoves, mainStep_setMoves]
  split <;> rfl

/-- Settles O11: an event or a change of a pin is the move of its name, and DISPATCH and MAIN are the core's own. -/
theorem everyRelationStepIsAStep : Obligations.EveryRelationStepIsAStep := by
  intro l s t ms h
  cases h with
  | reset => exact ⟨.rst, rfl⟩
  | sensRaw _ v => exact ⟨.sensRaw v, rfl⟩
  | cfgPol _ p => exact ⟨.cfgPol p, rfl⟩
  | cfgHalt _ level => exact ⟨.cfgHalt level, rfl⟩
  | tickreq =>
    rw [← requestTick_setMoves]
    exact ⟨.tickIn, rfl⟩
  | dispatch _ enabled =>
    refine ⟨.core, ?_⟩
    rw [step_core_move, if_pos enabled]
  | main _ enabled =>
    refine ⟨.core, ?_⟩
    rw [step_core_move, mainEnabled_iff.mp enabled]
    rfl

/-! ### Progress in a weakly fair run (R215; 42_motor_driver.md R155) -/

/-- Without RESET an infinite run that starts in the RUN phase stays in it (43_sequencer.md R182). -/
theorem InfiniteRun.phase_run {run : Nat → State} {lab : Nat → Label} (hrun : InfiniteRun run lab)
    (hreset : ∀ n, lab n ≠ .reset) (hphase : (run 0).phase = .run) (n : Nat) : (run n).phase = .run := by
  induction n with
  | zero => exact hphase
  | succ n ih =>
    rcases runLoopIsLeftOnlyByReset _ _ _ (hrun n) ih with ⟨hlab, -⟩ | ⟨hstays, -⟩
    · exact absurd hlab (hreset n)
    · exact hstays

/-- A step of the relation labelled MAIN is MAIN's micro-operation. -/
theorem CoreStep.eq_mainStep {s t : State} (h : CoreStep .main s t) : t = mainStep s := by
  cases h
  rfl

/-- `P k` tells that `k` MAIN steps are left: each MAIN step takes one off, and what leaves SEQ and the command alone
takes none. -/
structure CountsMainSteps (P : Nat → State → Prop) : Prop where
  main : ∀ {k s}, P (k + 1) s → P k (mainStep s)
  other : ∀ {k s t}, SameCommand s t → P k s → P k t

section
variable {P : Nat → State → Prop} {run : Nat → State} {lab : Nat → Label}

/-- A MAIN step of the run takes one off the count. -/
theorem CountsMainSteps.run_succ (hP : CountsMainSteps P) (hrun : InfiniteRun run lab) {k n : Nat}
    (hlab : lab n = .main) (h : P (k + 1) (run n)) : P k (run (n + 1)) := by
  have hnext : run (n + 1) = mainStep (run n) := CoreStep.eq_mainStep (hlab ▸ hrun n)
  rw [hnext]
  exact hP.main h

/-- Up to the next MAIN step, which is at most `d` steps away, the count stays; that step takes one off it. -/
theorem CountsMainSteps.exists_pred (hP : CountsMainSteps P) (hrun : InfiniteRun run lab)
    (hreset : ∀ n, lab n ≠ .reset) {k n : Nat} (d : Nat) (hmain : lab (n + d) = .main) (h : P (k + 1) (run n)) :
    ∃ m, n ≤ m ∧ P k (run m) := by
  induction d generalizing n with
  | zero => exact ⟨n + 1, n.le_succ, hP.run_succ hrun hmain h⟩
  | succ d ih =>
    by_cases hlab : lab n = .main
    · exact ⟨n + 1, n.le_succ, hP.run_succ hrun hlab h⟩
    · have hsame : SameCommand (run n) (run (n + 1)) := sameCommand_of_coreStep (hrun n) (hreset n) hlab
      obtain ⟨m, hm, hpred⟩ := ih (by rwa [Nat.succ_add_eq_add_succ]) (hP.other hsame h)
      exact ⟨m, n.le_succ.trans hm, hpred⟩

/-- While MAIN goes on again and again the count comes to its end. -/
theorem CountsMainSteps.exists_zero (hP : CountsMainSteps P) (hrun : InfiniteRun run lab)
    (hreset : ∀ n, lab n ≠ .reset) (hmain : InfinitelyOften lab .main) {k n : Nat} (h : P k (run n)) :
    ∃ m, n ≤ m ∧ P 0 (run m) := by
  induction k generalizing n with
  | zero => exact ⟨n, le_refl n, h⟩
  | succ k ih =>
    obtain ⟨i, hi, hlab⟩ := hmain n
    obtain ⟨d, rfl⟩ := Nat.exists_eq_add_of_le hi
    obtain ⟨j, hj, hpred⟩ := hP.exists_pred hrun hreset d hlab h
    obtain ⟨m, hm, hzero⟩ := ih hpred
    exact ⟨m, hj.trans hm, hzero⟩

end

/-- `k` MAIN steps are left until SEQ is at SENSE, whichever write the loop is at (43_sequencer.md R170). -/
def SenseAfter (k : Nat) (s : State) : Prop :=
  match k with
  | 0 => s.seq = .sense
  | 1 => s.seq = .wrdutyR
  | 2 => s.seq = .wrdirR
  | 3 => s.seq = .wrdutyL
  | 4 => s.seq = .wrdirL
  | _ => False

/-- In the RUN phase SENSE is some number of MAIN steps away. -/
theorem exists_senseAfter {s : State} (h : s.phase = .run) : ∃ k, SenseAfter k s := by
  unfold State.phase at h
  cases hseq : s.seq <;> rw [hseq] at h
  case cfgrd | idle => exact nomatch h
  case sense => exact ⟨0, hseq⟩
  case wrdutyR => exact ⟨1, hseq⟩
  case wrdirR => exact ⟨2, hseq⟩
  case wrdutyL => exact ⟨3, hseq⟩
  case wrdirL => exact ⟨4, hseq⟩

/-- Each write moves SEQ on to the next, and the last one to SENSE. -/
theorem senseAfter_mainStep {k : Nat} {s : State} (h : SenseAfter (k + 1) s) : SenseAfter k (mainStep s) := by
  unfold mainStep
  match k, h with
  | 0, hseq | 1, hseq | 2, hseq | 3, hseq =>
    change s.seq = _ at hseq
    rw [hseq]
    rfl

theorem countsMainSteps_senseAfter : CountsMainSteps SenseAfter where
  main := senseAfter_mainStep
  other hsame h := by
    unfold SenseAfter at *
    rwa [hsame.seq]

theorem countsMainSteps_iterationLeft : CountsMainSteps IterationLeft where
  main := iterationLeft_mainStep
  other hsame h := hsame.iterationLeft h

/-- Settles O57: MAIN goes on again and again, so the run comes to SENSE, and from there to the end of an iteration,
where both sides show the command of STATE. -/
theorem fairRunKeepsIssuingCommands : Obligations.FairRunKeepsIssuingCommands := by
  intro run lab hrun ⟨hmain, _⟩ hphase hreset n
  obtain ⟨k, hk⟩ := exists_senseAfter (hrun.phase_run hreset hphase n)
  obtain ⟨i, hi, hsense⟩ := countsMainSteps_senseAfter.exists_zero hrun hreset hmain hk
  have hbegin : IterationLeft 5 (run i) := hsense
  obtain ⟨m, hm, hend⟩ := countsMainSteps_iterationLeft.exists_zero hrun hreset hmain hbegin
  exact ⟨m, hi.trans hm, hend⟩

end Sys2Proof.Machine

/-! # Reset, and the hazards of the tick (70_reset_and_hazards.md)

RESET and the word RST; the torn window of the reference design; then two facts about the step relation of R213: which
step may change which output, and, under NO_OVERRUN, what a run's ticks come to. -/

namespace Sys2Proof.Machine

/-! ### RESET (R230) -/

/-- RESET is the hardware reset. -/
theorem exec_reset (s : State) : exec .reset s = .next (applyReset s) := rfl

/-- The word RST is the same operation (30_encoding.md R81). -/
theorem exec_rst (s : State) : exec .rst s = .next (applyReset s) := rfl

/-- After RESET every output pin is low, as it is at power-up. -/
theorem applyReset_outPin (s : State) (g : OutSignal) : (applyReset s).outPin g = 0b00 :=
  powerUp_outPin s.cfg g

/-- Settles O46: both are `applyReset`, whose registers are as its definition gives them. -/
theorem resetWritesEveryRegister : Obligations.ResetWritesEveryRegister := by
  intro s i hi
  have hexec : exec i s = .next (applyReset s) := by
    rcases hi with rfl | rfl
    · exact exec_reset s
    · exact exec_rst s
  refine ⟨hexec, fun t g ht => ?_⟩
  cases hexec.symm.trans ht
  exact applyReset_outPin s g

/-! ### The torn window (R240) -/

/-- The reference design just after WRDIR.L, going from SoftLeft to Centered, with a tick pending: on the left the new
direction, Forward, stands beside the old duty, 3. -/
def State.torn : State :=
  { State.reset with
    left := ⟨5, 3, .forward, .coast⟩
    right := ⟨50, 7, .forward, .coast⟩
    seq := .wrdutyL
    tickEn := true
    tickPend := true }

theorem registersInv_torn : RegistersInv State.torn := by
  refine registersInv_iff.mpr ⟨by decide, fun x => ?_, ?_, fun _ => rfl⟩
  · cases x <;> decide
  · exact ⟨fun _ => rfl, fun _ => rfl⟩

/-- The left direction is that of Centered; the left duty and the right side are SoftLeft's. -/
theorem driverInv_torn : DriverInv State.torn := ⟨rfl, some .softLeft, rfl, rfl, rfl⟩

/-- No row of the reference table drives the left side forward with duty 3 (41_steering.md R135). -/
theorem reference_left_duty_ne_three {q : Steering} (h : (commandOf CmdTable.reference q).left.dir = .forward) :
    (commandOf CmdTable.reference q).left.duty ≠ 3 := by
  cases q
  case centered | softRight | hardRight | lostRight => decide
  case softLeft | hardLeft | lostLeft => exact nomatch h

/-- No command, and not reset's either, has the left direction and the left duty of the torn state. -/
theorem not_sideShows_torn (q : Option Steering) : ¬SideShows State.torn .left q := by
  rintro ⟨hdsel, hduty⟩
  cases q with
  | none => exact nomatch hdsel
  | some q =>
    have hdir : (commandOf CmdTable.reference q).left.dir = .forward := by
      change DirSel.forward = selectorOf (commandOf CmdTable.reference q).left.dir at hdsel
      rw [selectorOf_eq_ite] at hdsel
      by_contra hne
      rw [if_neg hne] at hdsel
      exact nomatch hdsel
    exact reference_left_duty_ne_three hdir hduty.symm

/-- Settles O32 with the torn state: without CMD_ATOMIC nothing holds its tick, so DISPATCH is next. -/
theorem referenceDesignCanTear : Obligations.ReferenceDesignCanTear := by
  have hdispatch : dispatchEnabled State.torn = true := by decide
  have hstep : step State.torn = exec .dispatch State.torn := by
    rw [step_of_no_moves rfl, coreInstr, if_pos hdispatch]
  exact ⟨State.torn, registersInv_torn, driverInv_torn, rfl, rfl, hstep, fun ⟨q, hq⟩ => not_sideShows_torn q hq⟩

/-! ### Each output changes only at its own step (R245) -/

/-- Where MAIN writes a side's direction (42_motor_driver.md R151, R153). -/
def SeqStep.wrdir : Side → SeqStep
  | .left => .wrdirL
  | .right => .wrdirR

/-- Where MAIN writes a side's duty (42_motor_driver.md R152, R154). -/
def SeqStep.wrduty : Side → SeqStep
  | .left => .wrdutyL
  | .right => .wrdutyR

/-- A MAIN step leaves every enable pair alone (10_state.md R37). -/
theorem mainStep_en (s : State) (x : Side) : ((mainStep s).side x).en = (s.side x).en := by
  obtain ⟨hside, -⟩ := mainStep_frame s
  exact (hside x).2

/-- A MAIN step other than the side's WRDIR leaves its selector alone (10_state.md R28). -/
theorem mainStep_dsel_of_ne_wrdir {s : State} {x : Side} (h : s.seq ≠ SeqStep.wrdir x) :
    ((mainStep s).side x).dsel = (s.side x).dsel := by
  unfold mainStep
  cases hseq : s.seq
  case cfgrd => dsimp only; rw [readConfiguration_eq]; split <;> simp
  case wrdirL => cases x; exacts [absurd hseq h, rfl]
  case wrdirR => cases x; exacts [rfl, absurd hseq h]
  all_goals cases x <;> rfl

/-- A MAIN step other than the side's WRDUTY leaves its duty alone (10_state.md R27). -/
theorem mainStep_duty_of_ne_wrduty {s : State} {x : Side} (h : s.seq ≠ SeqStep.wrduty x) :
    ((mainStep s).side x).duty = (s.side x).duty := by
  unfold mainStep
  cases hseq : s.seq
  case cfgrd => dsimp only; rw [readConfiguration_eq]; split <;> simp
  case wrdutyL => cases x; exacts [absurd hseq h, rfl]
  case wrdutyR => cases x; exacts [rfl, absurd hseq h]
  all_goals cases x <;> rfl

/-- Of the step relation only DISPATCH and RESET write an enable pair (10_state.md R29). -/
theorem CoreStep.en_eq {l : Label} {s t : State} (h : CoreStep l s t) (hdispatch : l ≠ .dispatch) (hreset : l ≠ .reset)
    (x : Side) : (t.side x).en = (s.side x).en := by
  cases h with
  | reset => exact absurd rfl hreset
  | dispatch => exact absurd rfl hdispatch
  | sensRaw | cfgPol | cfgHalt => rfl
  | tickreq => rw [requestTick_side]
  | main => exact mainStep_en s x

/-- What hangs on the command shown alone, and what MAIN writes at one value of SEQ only, changes only there or at RESET. -/
theorem CoreStep.reset_or_main_at {α : Type} {l : Label} {s t : State} (h : CoreStep l s t) {f : State → α} {q : SeqStep}
    (hmain : s.seq ≠ q → f (mainStep s) = f s) (hsame : SameCommand s t → f t = f s) (hne : f t ≠ f s) :
    l = .reset ∨ l = .main ∧ s.seq = q := by
  by_contra! hother
  obtain ⟨hreset, hseq⟩ := hother
  by_cases hl : l = .main
  · subst hl
    rw [h.eq_mainStep] at hne
    exact hne (hmain (hseq rfl))
  · exact hne (hsame (sameCommand_of_coreStep h hreset hl))

/-- Of the step relation only the side's WRDIR and RESET write its selector (10_state.md R28). -/
theorem CoreStep.reset_or_wrdir {l : Label} {s t : State} (h : CoreStep l s t) {x : Side} :
    (t.side x).dsel ≠ (s.side x).dsel → l = .reset ∨ l = .main ∧ s.seq = SeqStep.wrdir x :=
  h.reset_or_main_at (f := fun s => (s.side x).dsel) mainStep_dsel_of_ne_wrdir fun hsame => hsame.dsel x

/-- Of the step relation only the side's WRDUTY and RESET write its duty (10_state.md R27). -/
theorem CoreStep.reset_or_wrduty {l : Label} {s t : State} (h : CoreStep l s t) {x : Side} :
    (t.side x).duty ≠ (s.side x).duty → l = .reset ∨ l = .main ∧ s.seq = SeqStep.wrduty x :=
  h.reset_or_main_at (f := fun s => (s.side x).duty) mainStep_duty_of_ne_wrduty fun hsame => hsame.duty x

/-- Settles O45: the pins show the latches, and each register has its own writers. -/
theorem outputsChangeOnlyAtTheirSteps : Obligations.OutputsChangeOnlyAtTheirSteps := by
  intro l s t h
  refine ⟨fun hen => ?_, fun hdsel => ?_, fun hdsel => ?_, fun hduty => ?_, fun hduty => ?_⟩
  · by_contra! hother
    obtain ⟨hdispatch, hreset⟩ := hother
    have hsame := h.en_eq hdispatch hreset
    exact hen.elim (absurd (congrArg Enable.code (hsame .left))) (absurd (congrArg Enable.code (hsame .right)))
  · exact h.reset_or_wrdir (x := .left) (ne_of_apply_ne DirSel.code hdsel)
  · exact h.reset_or_wrdir (x := .right) (ne_of_apply_ne DirSel.code hdsel)
  · exact h.reset_or_wrduty (x := .left) hduty
  · exact h.reset_or_wrduty (x := .right) hduty

/-! ### Counting ticks under NO_OVERRUN (R242) -/

theorem pendingCount_of_tickPend {s : State} (h : s.tickPend = true) : pendingCount s = 1 := by
  rw [pendingCount, if_pos h]

theorem pendingCount_of_not_tickPend {s : State} (h : s.tickPend = false) : pendingCount s = 0 := by
  rw [pendingCount, h]
  rfl

/-- From `s` to `t` there were `requests` TICKREQ steps and `dispatches` DISPATCH steps: what came in and was pending is
what was dispatched and is pending still, and each counter went on by the dispatches, modulo PERIOD. -/
structure TicksCounted (requests dispatches : Nat) (s t : State) : Prop where
  pending : requests + pendingCount s = dispatches + pendingCount t
  cnt : ∀ x, (t.side x).cnt.toNat = ((s.side x).cnt.toNat + dispatches) % s.cfg.period
  cfg : t.cfg = s.cfg

/-- With neither a request nor a dispatch everything that is counted stays. -/
theorem ticksCounted_zero {s t : State} (hinv : RegistersInv s) (hcfg : t.cfg = s.cfg) (hpend : t.tickPend = s.tickPend)
    (hcnt : ∀ x, (t.side x).cnt = (s.side x).cnt) : TicksCounted 0 0 s t := by
  obtain ⟨-, hrange, -⟩ := hinv
  refine ⟨?_, fun x => ?_, hcfg⟩
  · rw [pendingCount, pendingCount, hpend]
  · rw [hcnt x, Nat.add_zero, Nat.mod_eq_of_lt (hrange x)]

/-- The counts of two runs, one after the other, add up. -/
theorem TicksCounted.trans {a b c d : Nat} {s t u : State} (h : TicksCounted a b s t) (k : TicksCounted c d t u) :
    TicksCounted (a + c) (b + d) s u := by
  obtain ⟨hpend, hcnt, hcfg⟩ := h
  obtain ⟨kpend, kcnt, kcfg⟩ := k
  refine ⟨by omega, fun x => ?_, kcfg.trans hcfg⟩
  rw [kcnt x, hcnt x, hcfg, Nat.mod_add_mod, Nat.add_assoc]

/-- A request that finds ticks enabled and none pending makes one pending (60_exceptions.md R206). -/
theorem ticksCounted_requestTick {s : State} (hinv : RegistersInv s) (hen : s.tickEn = true) (hpend : s.tickPend = false) :
    TicksCounted 1 0 s (requestTick s) := by
  obtain ⟨-, hrange, -⟩ := hinv
  have hafter : (requestTick s).tickPend = true := by rw [requestTick_tickPend, hen, Bool.true_or]
  refine ⟨?_, fun x => ?_, requestTick_cfg s⟩
  · rw [pendingCount_of_not_tickPend hpend, pendingCount_of_tickPend hafter]
  · rw [requestTick_side, Nat.add_zero, Nat.mod_eq_of_lt (hrange x)]

/-- A dispatch takes the pending tick and advances both counters by one modulo PERIOD (60_exceptions.md R208). -/
theorem ticksCounted_takeTick {s : State} (hinv : RegistersInv s) (hpend : s.tickPend = true) :
    TicksCounted 0 1 s (takeTick s) := by
  obtain ⟨⟨-, hperiod, -⟩, hrange, -⟩ := hinv
  refine ⟨?_, fun x => ?_, takeTick_cfg s⟩
  · rw [pendingCount_of_tickPend hpend, pendingCount_of_not_tickPend (takeTick_tickPend s)]
  · rw [takeTick_side, SideRegs.pwmTick_cnt, nextCount_mod hperiod (hrange x)]

/-- In the RUN phase a step other than RESET, and without overrun, counts as its label says. -/
theorem ticksCounted_of_coreStep {l : Label} {s t : State} (h : CoreStep l s t) (hinv : RegistersInv s)
    (hphase : s.phase = .run) (hreset : l ≠ .reset) (hoverrun : l = .tickreq → s.tickPend = false) :
    TicksCounted ([l].count .tickreq) ([l].count .dispatch) s t := by
  cases h with
  | reset => exact absurd rfl hreset
  | sensRaw | cfgPol | cfgHalt => exact ticksCounted_zero hinv rfl rfl fun _ => rfl
  | tickreq =>
    obtain ⟨-, -, hen, -⟩ := registersInv_iff.mp hinv
    exact ticksCounted_requestTick hinv (hen.mpr hphase) (hoverrun rfl)
  | dispatch _ enabled => exact ticksCounted_takeTick hinv (tickPend_of_dispatchEnabled enabled)
  | main => exact ticksCounted_zero hinv (mainStep_cfg s) (mainStep_tickPend s) (mainStep_cnt s)

/-- Every step of the relation keeps the register invariant. -/
theorem registersInv_of_coreStep {l : Label} {s t : State} (h : CoreStep l s t) (hinv : RegistersInv s) :
    RegistersInv t := by
  cases h with
  | reset => exact registersInv_applyReset hinv
  | sensRaw | cfgPol | cfgHalt => exact hinv
  | tickreq => exact registersInv_requestTick hinv
  | dispatch => exact registersInv_takeTick hinv
  | main => exact registersInv_mainStep hinv

/-- Step by step a run in the RUN phase counts as its labels say. -/
theorem ticksCounted_of_coreTrace {s t : State} {tr : List (State × Label)} (htr : CoreTrace s tr t)
    (hinv : RegistersInv s) (hphase : s.phase = .run) (hreset : .reset ∉ labels tr) (hoverrun : NoOverrun tr) :
    TicksCounted ((labels tr).count .tickreq) ((labels tr).count .dispatch) s t := by
  induction htr with
  | nil s => exact ticksCounted_zero hinv rfl rfl fun _ => rfl
  | @cons s u t l tr hstep _ ih =>
    obtain ⟨hl, hrest⟩ : Label.reset ≠ l ∧ Label.reset ∉ labels tr :=
      ⟨List.ne_of_not_mem_cons hreset, List.not_mem_of_not_mem_cons hreset⟩
    obtain ⟨hfirst, hlater⟩ : (l = .tickreq → s.tickPend = false) ∧ NoOverrun tr := List.forall_mem_cons.mp hoverrun
    have hrun : u.phase = .run := by
      rcases runLoopIsLeftOnlyByReset _ _ _ hstep hphase with ⟨hlab, -⟩ | ⟨hstays, -⟩
      · exact absurd hlab.symm hl
      · exact hstays
    have hcounted : TicksCounted ([l].count .tickreq) ([l].count .dispatch) s u :=
      ticksCounted_of_coreStep hstep hinv hphase hl.symm hfirst
    have hsplit : labels ((s, l) :: tr) = [l] ++ labels tr := rfl
    rw [hsplit, List.count_append, List.count_append]
    exact hcounted.trans (ih (registersInv_of_coreStep hstep hinv) hrun hrest hlater)

/-- Settles O44, by `ticksCounted_of_coreTrace`. -/
theorem noTickIsLostWithoutOverrun : Obligations.NoTickIsLostWithoutOverrun := by
  intro s t tr htr hinv hphase hreset hoverrun
  obtain ⟨hpend, hcnt, -⟩ := ticksCounted_of_coreTrace htr hinv hphase hreset hoverrun
  exact ⟨hpend, hcnt⟩

end Sys2Proof.Machine

/-! # What a step runs, and the invariants at power-up (60_exceptions.md R213; 70_reset_and_hazards.md R231)

The two ends of a run: which instruction each of the environment's moves stands for, and the state a run begins in. -/

namespace Sys2Proof.Machine

/-! ### The instruction a move stands for (R213; 30_encoding.md R81) -/

/-- A step with a move in front runs the instruction of that move, on the moves the instruction leaves. -/
theorem step_of_fetchMove {s : State} {m : Move} {rest left : List Move} {i : Instr} (hmoves : s.moves = m :: rest)
    (hm : fetchMove s m rest = .ok (i, left)) : step s = exec i (s.setMoves left) := by
  have hfetch : fetch s = .ok (i, left) := by rw [fetch, hmoves, ← hm]
  exact step_of_fetch hfetch

/-- A STEP word waits in front while DISPATCH, which has priority, is enabled (R212). -/
theorem step_stim_step_waits {s : State} {w : Stim10} {rest : List Move} (hmoves : s.moves = .stim w :: rest)
    (hdecode : decodeStim w = .ok .step) (hd : dispatchEnabled s = true) : step s = exec .dispatch s := by
  have hm : fetchMove s (.stim w) rest = .ok (.dispatch, s.moves) := by simp [fetchMove, hdecode, hd, hmoves]
  rw [step_of_fetchMove hmoves hm, State.setMoves_self]

/-- A word that does not decode is refused by name. -/
theorem step_stim_illFormed {s : State} {w : Stim10} {rest : List Move} {e : DecodeError}
    (hmoves : s.moves = .stim w :: rest) (hdecode : decodeStim w = .error e) :
    step s = .refused (.illFormedStimulus w) := by
  have hfetch : fetch s = .error (.illFormedStimulus w) := by simp only [fetch, hmoves, fetchMove, hdecode]
  rw [step, hfetch]

/-- Settles O8, one clause for each kind of move: the moves other than a stimulus word stand for one instruction each,
and a word for what it decodes to, unless it waits or is refused. -/
theorem stepRunsTheDecodedInstruction : Obligations.StepRunsTheDecodedInstruction := by
  intro s rest
  refine ⟨step_of_no_moves, ?core, ?tickIn, ?rst, ?sensRaw, ?cfgPol, ?cfgHalt, ?stim, ?waits, ?illFormed⟩
  case core | tickIn | rst => exact fun hmoves => step_of_fetchMove hmoves rfl
  case sensRaw | cfgPol | cfgHalt => exact fun _ hmoves => step_of_fetchMove hmoves rfl
  case stim =>
    intro w i hmoves hdecode hwait
    exact step_stim hmoves hdecode fun hi => Bool.eq_false_iff.mpr fun hd => hwait ⟨hi, hd⟩
  case waits => exact fun _ => step_stim_step_waits
  case illFormed => exact fun _ _ => step_stim_illFormed

/-! ### The invariants at power-up (R231; 10_state.md R39) -/

/-- RESET finds nothing to do at power-up (R230, R231): what holds after every RESET holds there. -/
theorem applyReset_powerUp (c : Config) : applyReset (State.powerUp c) = State.powerUp c := rfl

@[simp] theorem powerUp_side (c : Config) (x : Side) : (State.powerUp c).side x = SideRegs.reset (cntInitOf c x) := by
  cases x <;> rfl

/-- At power-up the counters are at their initial values, and the tick is neither enabled nor pending. -/
theorem registersInv_powerUp {c : Config} (h : c.WellFormed) : RegistersInv (State.powerUp c) := by
  refine registersInv_iff.mpr ⟨h, fun x => ?_, ?_, ?_⟩
  · rw [powerUp_side]
    exact cntInitOf_lt_period h x
  · exact ⟨(nomatch ·), (nomatch ·)⟩
  · exact (nomatch ·)

theorem quietOutsideRun_powerUp (c : Config) : QuietOutsideRun (State.powerUp c) :=
  applyReset_powerUp c ▸ quietOutsideRun_applyReset (State.powerUp c)

theorem driverInv_powerUp (c : Config) : DriverInv (State.powerUp c) :=
  applyReset_powerUp c ▸ driverInv_applyReset (State.powerUp c)

theorem skewInv_powerUp (c : Config) : SkewInv (State.powerUp c) :=
  applyReset_powerUp c ▸ skewInv_applyReset (State.powerUp c)

/-- Both duties are 0 at power-up, whatever the reference table says. -/
theorem referenceDuties_powerUp {c : Config} (h : c.cmdTable = CmdTable.reference) :
    ReferenceDuties (State.powerUp c) := by
  refine ⟨h, fun x => .inl ?_⟩
  rw [powerUp_side]
  rfl

/-- 00_scope.md R6: the default values of the parameters are in range. -/
theorem reference_wellFormed : Config.reference.WellFormed := by decide

/-- Settles O51: each invariant at power-up by its own lemma, and `State.reset` is the case of the reference parameters. -/
theorem invariantsHoldAtReset : Obligations.InvariantsHoldAtReset := by
  refine ⟨fun c hc => ?_, rfl, reference_wellFormed, referenceDuties_powerUp rfl⟩
  exact ⟨registersInv_powerUp hc, quietOutsideRun_powerUp c, driverInv_powerUp c, skewInv_powerUp c⟩

end Sys2Proof.Machine
